-- ==== Sys2Proof/Word.lean ====
section
/-! DEFINITION. The word types of the channel (00_scope.md R5: bit 0 is the least significant bit,
every word is unsigned). -/

namespace Sys2Proof

/-- One byte of a request. -/
abbrev Byte := BitVec 8

/-- A 32-bit register word. -/
abbrev Word := BitVec 32

/-- The 64-bit payload of a message. -/
abbrev Payload := BitVec 64

end Sys2Proof
end

