-- ==== Sys2Proof/Config.lean ====
section
/-! DEFINITION. The configuration of a channel: every parameter of 00_scope.md R4, the
well-formedness constraints of 92_eei_decisions.md ("Open parameters in one list"), and the free
value. A configuration is fixed at construction and kept by reset (10_state.md R10). -/

namespace Sys2Proof

/-- Register generation of the channel's windows (30_encoding.md R89). -/
inductive Gen
  | v2
  | v4
deriving DecidableEq, Repr

/-- What the start and wakeup hooks of the A7IOP core call (42_a7iop_core.md R180). -/
inductive HookTarget
  | engine
  | nothing
deriving DecidableEq, Repr

/-- One entry of `REGISTRY` (43_rtbuddy_engine.md R192): wire endpoint id, identity of the handler,
and whether it was registered as a user endpoint. -/
structure Endpoint where
  wire    : Nat
  handler : Nat
  user    : Bool
deriving DecidableEq, Repr

/-- The parameters of 00_scope.md R4 that are not fixed by the source. -/
structure Config where
  gen                       : Gen
  mmioSize                  : Nat
  protocolVersion           : BitVec 16
  registry                  : List Endpoint
  bhRegisteredIop           : Bool
  bhRegisteredAp            : Bool
  hookTarget                : HookTarget
  roleName                  : String
  irqbitIopEmpty            : Nat
  irqbitIopNonempty         : Nat
  irqbitApEmpty             : Nat
  irqbitApNonempty          : Nat
  underflowAssertsEmptyLine : Bool
  ctrlFullBit               : Nat
  ctrlEmptyBit              : Nat
  ctrlOverflowBit           : Nat
  ctrlUnderflowBit          : Nat
  ctrlCountLsb              : Nat
  ctrlCountWidth            : Nat
  flagsDepthWidth           : Nat
  v4OffMaskSet              : Nat
  v4OffMaskClr              : Nat
  v4OffIopCtrl              : Nat
  v4OffApCtrl               : Nat
  a7iopOffCpuCtrl           : Nat
  a7iopOffCpuStatus         : Nat
  cpuCtrlRunBit             : Nat
  cpuStatusIdleBit          : Nat
  mgmtTypeLsb               : Nat
  helloMajorLsb             : Nat
  helloMinorLsb             : Nat
  rollcallMaskLsb           : Nat
  rollcallBlockLsb          : Nat
  rollcallEndedBit          : Nat
  pwrStateLsb               : Nat
  pwrStateWidth             : Nat
deriving DecidableEq, Repr

/-! The parameters that 00_scope.md R4 fixes from the source. -/

/-- `MAX_DEPTH`: the queue depth at which full is reported. -/
abbrev maxDepth : Nat := 15

/-- `MSG_BYTES`: the size of a message record. -/
abbrev msgBytes : Nat := 16

/-- `USER_EP_BASE`: the first user endpoint id on the wire. -/
abbrev userEpBase : Nat := 32

/-- `EP_MGMT`: the endpoint id of the management endpoint. -/
abbrev epMgmt : Word := 0

/-- `PWR_STATE_ON`: the value of the final power-state acknowledgment. -/
abbrev pwrStateOn : Payload := 32

/-- `CTRL_ENABLE_BIT`: the enable bit of a direction-control word. -/
abbrev ctrlEnableBit : Nat := 0

/-- `FLAGS_DEPTH_LSB`: the lowest bit of the depth field of the flags word. -/
abbrev flagsDepthLsb : Nat := 0

/-- The largest wire id a rollcall can advertise (30_encoding.md R87). -/
abbrev maxWire : Nat := 2047

/-- The free value of log entry 6: what the `n`-th read of a register without a stated read value
returns (41_register_facade.md R134, R150). Nothing constrains it. -/
opaque Config.freeWord : Nat → Word

namespace Config

/-- `NWORDS`: the 32-bit words of a message slot (00_scope.md R4). -/
def nwords (c : Config) : Nat :=
  match c.gen with
  | .v2 => 2
  | .v4 => 4

/-- The configuration of `State.reset`: the defaults of 00_scope.md R4, and for the parameters that
R4 leaves to the constructor the values of log entry 5 (DESIGN CHOICE). -/
def default : Config where
  gen := .v2
  mmioSize := 0x1000
  protocolVersion := 11
  registry := []
  bhRegisteredIop := true
  bhRegisteredAp := false
  hookTarget := .engine
  roleName := ""
  irqbitIopEmpty := 0
  irqbitIopNonempty := 4
  irqbitApEmpty := 8
  irqbitApNonempty := 12
  underflowAssertsEmptyLine := false
  ctrlFullBit := 16
  ctrlEmptyBit := 17
  ctrlOverflowBit := 18
  ctrlUnderflowBit := 19
  ctrlCountLsb := 20
  ctrlCountWidth := 4
  flagsDepthWidth := 8
  v4OffMaskSet := 0x00
  v4OffMaskClr := 0x04
  v4OffIopCtrl := 0x08
  v4OffApCtrl := 0x20
  a7iopOffCpuCtrl := 0x44
  a7iopOffCpuStatus := 0x48
  cpuCtrlRunBit := 4
  cpuStatusIdleBit := 0
  mgmtTypeLsb := 56
  helloMajorLsb := 0
  helloMinorLsb := 16
  rollcallMaskLsb := 0
  rollcallBlockLsb := 32
  rollcallEndedBit := 51
  pwrStateLsb := 0
  pwrStateWidth := 16

/-- Two bit fields, each given by its lowest bit and its width, do not overlap. -/
abbrev Disjoint (lsb width lsb' width' : Nat) : Prop := lsb + width ≤ lsb' ∨ lsb' + width' ≤ lsb

/-- A registry entry has an id in the admitted range (43_rtbuddy_engine.md R190, R191): control
endpoints 1 to 31, user endpoints 32 to 2047 on the wire. -/
abbrev EntryWf (e : Endpoint) : Prop :=
  if e.user then userEpBase ≤ e.wire ∧ e.wire ≤ maxWire else 1 ≤ e.wire ∧ e.wire < userEpBase

/-- The registry is a finite map in ascending wire id (43_rtbuddy_engine.md R192). -/
abbrev RegistryWf (r : List Endpoint) : Prop :=
  r.Pairwise (fun a b => a.wire < b.wire) ∧ ∀ e ∈ r, EntryWf e

/-- The offsets of the four V4 control registers and of the two coprocessor words
(92_eei_decisions.md, "Open parameters in one list"). -/
abbrev OffsetsWf (c : Config) : Prop :=
  [c.v4OffMaskSet, c.v4OffMaskClr, c.v4OffIopCtrl, c.v4OffApCtrl].Nodup
  ∧ (∀ o ∈ [c.v4OffMaskSet, c.v4OffMaskClr, c.v4OffIopCtrl, c.v4OffApCtrl], o % 4 = 0 ∧ o < 0x700)
  ∧ c.a7iopOffCpuCtrl ≠ c.a7iopOffCpuStatus
  ∧ c.a7iopOffCpuCtrl % 4 = 0 ∧ c.a7iopOffCpuStatus % 4 = 0
  ∧ c.a7iopOffCpuCtrl < 0x1000 ∧ c.a7iopOffCpuStatus < 0x1000
  ∧ (if c.gen = .v2 then 0x40 else 0x740) ≤ c.mmioSize

/-- The bit positions of the mask, control, status and flags words. -/
abbrev BitsWf (c : Config) : Prop :=
  [c.irqbitIopEmpty, c.irqbitIopNonempty, c.irqbitApEmpty, c.irqbitApNonempty].Nodup
  ∧ (∀ b ∈ [c.irqbitIopEmpty, c.irqbitIopNonempty, c.irqbitApEmpty, c.irqbitApNonempty], b < 32)
  ∧ [ctrlEnableBit, c.ctrlFullBit, c.ctrlEmptyBit, c.ctrlOverflowBit, c.ctrlUnderflowBit].Nodup
  ∧ (∀ b ∈ [ctrlEnableBit, c.ctrlFullBit, c.ctrlEmptyBit, c.ctrlOverflowBit, c.ctrlUnderflowBit],
      b < 32 ∧ Disjoint b 1 c.ctrlCountLsb c.ctrlCountWidth)
  ∧ c.ctrlCountLsb + c.ctrlCountWidth ≤ 32
  ∧ flagsDepthLsb + c.flagsDepthWidth ≤ 32
  ∧ c.cpuCtrlRunBit < 32 ∧ c.cpuStatusIdleBit < 32

/-- The fields of each management payload are disjoint from each other and from the type field, all
below bit 64 (92_eei_decisions.md D20). -/
abbrev PayloadWf (c : Config) : Prop :=
  c.mgmtTypeLsb + 4 ≤ 64
  ∧ c.helloMajorLsb + 16 ≤ 64 ∧ c.helloMinorLsb + 16 ≤ 64
  ∧ Disjoint c.helloMajorLsb 16 c.helloMinorLsb 16
  ∧ Disjoint c.helloMajorLsb 16 c.mgmtTypeLsb 4 ∧ Disjoint c.helloMinorLsb 16 c.mgmtTypeLsb 4
  ∧ c.rollcallMaskLsb + 32 ≤ 64 ∧ c.rollcallBlockLsb + 6 ≤ 64 ∧ c.rollcallEndedBit + 1 ≤ 64
  ∧ Disjoint c.rollcallMaskLsb 32 c.rollcallBlockLsb 6
  ∧ Disjoint c.rollcallMaskLsb 32 c.rollcallEndedBit 1
  ∧ Disjoint c.rollcallBlockLsb 6 c.rollcallEndedBit 1
  ∧ Disjoint c.rollcallMaskLsb 32 c.mgmtTypeLsb 4
  ∧ Disjoint c.rollcallBlockLsb 6 c.mgmtTypeLsb 4
  ∧ Disjoint c.rollcallEndedBit 1 c.mgmtTypeLsb 4
  ∧ c.pwrStateLsb + c.pwrStateWidth ≤ 64 ∧ 6 ≤ c.pwrStateWidth
  ∧ Disjoint c.pwrStateLsb c.pwrStateWidth c.mgmtTypeLsb 4

/-- A configuration the spec admits (92_eei_decisions.md, "Open parameters in one list"). A channel
whose hooks reach the engine has the engine's callback on queue IOP and none on queue AP
(00_scope.md R4, `BH_REGISTERED`). -/
abbrev Wf (c : Config) : Prop :=
  OffsetsWf c ∧ BitsWf c ∧ PayloadWf c ∧ RegistryWf c.registry
  ∧ (c.hookTarget = .engine → c.bhRegisteredIop = true ∧ c.bhRegisteredAp = false)

end Config

end Sys2Proof
end

