-- ==== Sys2Proof/Syntax.lean ====
section
/-! DEFINITION. The whole syntax: the names of 00_scope.md R7, the message record (30_encoding.md R70),
the requests that reach the channel, and `Instr`, one constructor per row of spec/opcode_table.json. -/

namespace Sys2Proof

/-- The two queues, named by the role that owns and drains them (00_scope.md R7). -/
inductive QId
  | iop
  | ap
deriving DecidableEq, Repr

/-- The two register windows `IOPW` and `APW` (00_scope.md R7). -/
inductive Win
  | iopw
  | apw
deriving DecidableEq, Repr

/-- Direction of a bus access (30_encoding.md R73). -/
inductive Dir
  | read
  | write
deriving DecidableEq, Repr

/-- The three address spaces (20_memory.md R40). -/
inductive Space
  | window (w : Win)
  | control
deriving DecidableEq, Repr

/-- Access sizes in bytes (20_memory.md R45). -/
inductive Size
  | b1
  | b2
  | b4
  | b8
deriving DecidableEq, Repr

/-- A message (30_encoding.md R70). -/
structure Message where
  msg      : Payload
  endpoint : Word
  flags    : Word
deriving DecidableEq, Repr

/-- The registers of a window (30_encoding.md R74, R75): `send q k` and `recv q k` are word `k` of the
send and receive windows of queue `q`. -/
inductive Reg
  | maskSet
  | maskClr
  | ctrl (q : QId)
  | send (q : QId) (k : Nat)
  | recv (q : QId) (k : Nat)
deriving DecidableEq, Repr

/-- The operations that are selected by name (30_encoding.md R91). -/
inductive OpName
  | mbSend
  | mbRecv
  | mbSetIntMask
  | mbClrIntMask
  | mbSetDirEn
  | status
  | sendToAp
  | receiveFromAp
  | sendToIop
  | receiveFromIop
  | registerControlEndpoint
  | registerUserEndpoint
  | sendControlMessage
  | sendUserMessage
  | startOrWakeup
  | buildRollcall
  | bhIop
  | bhAp
  | mgmtDispatch
  | routeRegistered
  | routeUnregistered
  | reset
deriving DecidableEq, Repr

/-- Where a request reaches the channel: an address space, the management endpoint (inbound or
outbound payload), or a name (30_encoding.md R91). -/
inductive Port
  | space (sp : Space)
  | mgmtIn
  | mgmtOut
  | named (n : OpName)
deriving DecidableEq, Repr

/-- A request: its port and its bytes, the first byte the least significant (log entry 2). -/
structure Request where
  port  : Port
  bytes : List Byte
deriving DecidableEq, Repr

/-- Why a request is no operation of the channel. -/
inductive DecodeError
  /-- The number of bytes is not that of the port's format. -/
  | badLength
  /-- Bit 15 of an access request, which the format reserves, is set. -/
  | reservedBit
  /-- A read that carries write data. -/
  | dataOnRead
  /-- Write data wider than the access. -/
  | dataTooWide
  /-- An offset at or beyond `MMIO_SIZE`: no access to the block (20_memory.md R41). -/
  | outsideWindow
  /-- An outbound management payload that the engine never sends (30_encoding.md R82 to R85). -/
  | notEmitted
  /-- A byte that names no queue. -/
  | badQueue
  /-- A byte that names no window. -/
  | badWindow
  /-- A byte that is no Boolean. -/
  | badBool
  /-- A message whose endpoint the named route does not take (43_rtbuddy_engine.md R222, R224). -/
  | notThisRoute
deriving DecidableEq, Repr

/-- The operations of the channel, one constructor per row of spec/opcode_table.json, in the table's
order; the row `BH.IOP` has a second constructor for the other queue of the step `BH q` (log entry
18). A register row carries the window of the access and, for a write, the written word. A
management row carries the 64-bit payload. -/
inductive Instr
  /-- `V2.WR.MASK_SET` (R130). -/
  | v2WrMaskSet (w : Win) (val : Word)
  /-- `V2.RD.MASK_SET` (R134). -/
  | v2RdMaskSet (w : Win)
  /-- `V2.WR.MASK_CLR` (R132). -/
  | v2WrMaskClr (w : Win) (val : Word)
  /-- `V2.RD.MASK_CLR` (R134). -/
  | v2RdMaskClr (w : Win)
  /-- `V2.WR.IOP_CTRL` (R138). -/
  | v2WrIopCtrl (w : Win) (val : Word)
  /-- `V2.RD.IOP_CTRL` (R136). -/
  | v2RdIopCtrl (w : Win)
  /-- `V2.WR.IOP_SEND0` (R140). -/
  | v2WrIopSend0 (w : Win) (val : Word)
  /-- `V2.RD.IOP_SEND0` (R150). -/
  | v2RdIopSend0 (w : Win)
  /-- `V2.WR.IOP_SEND1` (R142). -/
  | v2WrIopSend1 (w : Win) (val : Word)
  /-- `V2.RD.IOP_SEND1` (R150). -/
  | v2RdIopSend1 (w : Win)
  /-- `V2.WR.IOP_RECV0` (R152). -/
  | v2WrIopRecv0 (w : Win) (val : Word)
  /-- `V2.RD.IOP_RECV0` (R146). -/
  | v2RdIopRecv0 (w : Win)
  /-- `V2.WR.IOP_RECV1` (R152). -/
  | v2WrIopRecv1 (w : Win) (val : Word)
  /-- `V2.RD.IOP_RECV1` (R148). -/
  | v2RdIopRecv1 (w : Win)
  /-- `V2.WR.AP_CTRL` (R138). -/
  | v2WrApCtrl (w : Win) (val : Word)
  /-- `V2.RD.AP_CTRL` (R136). -/
  | v2RdApCtrl (w : Win)
  /-- `V2.WR.AP_SEND0` (R140). -/
  | v2WrApSend0 (w : Win) (val : Word)
  /-- `V2.RD.AP_SEND0` (R150). -/
  | v2RdApSend0 (w : Win)
  /-- `V2.WR.AP_SEND1` (R142). -/
  | v2WrApSend1 (w : Win) (val : Word)
  /-- `V2.RD.AP_SEND1` (R150). -/
  | v2RdApSend1 (w : Win)
  /-- `V2.WR.AP_RECV0` (R152). -/
  | v2WrApRecv0 (w : Win) (val : Word)
  /-- `V2.RD.AP_RECV0` (R146). -/
  | v2RdApRecv0 (w : Win)
  /-- `V2.WR.AP_RECV1` (R152). -/
  | v2WrApRecv1 (w : Win) (val : Word)
  /-- `V2.RD.AP_RECV1` (R148). -/
  | v2RdApRecv1 (w : Win)
  /-- `V2.UNDEFINED` (R154). -/
  | v2Undefined (w : Win) (dir : Dir) (off : Nat) (val : Word)
  /-- `V4.WR.MASK_SET` (R130). -/
  | v4WrMaskSet (w : Win) (val : Word)
  /-- `V4.RD.MASK_SET` (R134). -/
  | v4RdMaskSet (w : Win)
  /-- `V4.WR.MASK_CLR` (R132). -/
  | v4WrMaskClr (w : Win) (val : Word)
  /-- `V4.RD.MASK_CLR` (R134). -/
  | v4RdMaskClr (w : Win)
  /-- `V4.WR.IOP_CTRL` (R138). -/
  | v4WrIopCtrl (w : Win) (val : Word)
  /-- `V4.RD.IOP_CTRL` (R136). -/
  | v4RdIopCtrl (w : Win)
  /-- `V4.WR.AP_CTRL` (R138). -/
  | v4WrApCtrl (w : Win) (val : Word)
  /-- `V4.RD.AP_CTRL` (R136). -/
  | v4RdApCtrl (w : Win)
  /-- `V4.WR.IOP_SEND0` (R140). -/
  | v4WrIopSend0 (w : Win) (val : Word)
  /-- `V4.RD.IOP_SEND0` (R150). -/
  | v4RdIopSend0 (w : Win)
  /-- `V4.WR.IOP_SEND1` (R140). -/
  | v4WrIopSend1 (w : Win) (val : Word)
  /-- `V4.RD.IOP_SEND1` (R150). -/
  | v4RdIopSend1 (w : Win)
  /-- `V4.WR.IOP_SEND2` (R140). -/
  | v4WrIopSend2 (w : Win) (val : Word)
  /-- `V4.RD.IOP_SEND2` (R150). -/
  | v4RdIopSend2 (w : Win)
  /-- `V4.WR.IOP_SEND3` (R142). -/
  | v4WrIopSend3 (w : Win) (val : Word)
  /-- `V4.RD.IOP_SEND3` (R150). -/
  | v4RdIopSend3 (w : Win)
  /-- `V4.WR.IOP_RECV0` (R152). -/
  | v4WrIopRecv0 (w : Win) (val : Word)
  /-- `V4.RD.IOP_RECV0` (R146). -/
  | v4RdIopRecv0 (w : Win)
  /-- `V4.WR.IOP_RECV1` (R152). -/
  | v4WrIopRecv1 (w : Win) (val : Word)
  /-- `V4.RD.IOP_RECV1` (R148). -/
  | v4RdIopRecv1 (w : Win)
  /-- `V4.WR.IOP_RECV2` (R152). -/
  | v4WrIopRecv2 (w : Win) (val : Word)
  /-- `V4.RD.IOP_RECV2` (R148). -/
  | v4RdIopRecv2 (w : Win)
  /-- `V4.WR.IOP_RECV3` (R152). -/
  | v4WrIopRecv3 (w : Win) (val : Word)
  /-- `V4.RD.IOP_RECV3` (R148). -/
  | v4RdIopRecv3 (w : Win)
  /-- `V4.WR.AP_SEND0` (R140). -/
  | v4WrApSend0 (w : Win) (val : Word)
  /-- `V4.RD.AP_SEND0` (R150). -/
  | v4RdApSend0 (w : Win)
  /-- `V4.WR.AP_SEND1` (R140). -/
  | v4WrApSend1 (w : Win) (val : Word)
  /-- `V4.RD.AP_SEND1` (R150). -/
  | v4RdApSend1 (w : Win)
  /-- `V4.WR.AP_SEND2` (R140). -/
  | v4WrApSend2 (w : Win) (val : Word)
  /-- `V4.RD.AP_SEND2` (R150). -/
  | v4RdApSend2 (w : Win)
  /-- `V4.WR.AP_SEND3` (R142). -/
  | v4WrApSend3 (w : Win) (val : Word)
  /-- `V4.RD.AP_SEND3` (R150). -/
  | v4RdApSend3 (w : Win)
  /-- `V4.WR.AP_RECV0` (R152). -/
  | v4WrApRecv0 (w : Win) (val : Word)
  /-- `V4.RD.AP_RECV0` (R146). -/
  | v4RdApRecv0 (w : Win)
  /-- `V4.WR.AP_RECV1` (R152). -/
  | v4WrApRecv1 (w : Win) (val : Word)
  /-- `V4.RD.AP_RECV1` (R148). -/
  | v4RdApRecv1 (w : Win)
  /-- `V4.WR.AP_RECV2` (R152). -/
  | v4WrApRecv2 (w : Win) (val : Word)
  /-- `V4.RD.AP_RECV2` (R148). -/
  | v4RdApRecv2 (w : Win)
  /-- `V4.WR.AP_RECV3` (R152). -/
  | v4WrApRecv3 (w : Win) (val : Word)
  /-- `V4.RD.AP_RECV3` (R148). -/
  | v4RdApRecv3 (w : Win)
  /-- `V4.UNDEFINED` (R154). -/
  | v4Undefined (w : Win) (dir : Dir) (off : Nat) (val : Word)
  /-- `REG.BAD_SIZE` (R156). -/
  | regBadSize (sp : Space) (dir : Dir) (size : Size) (off : Nat) (val : Nat)
  /-- `CTL.WR.CPU_CTRL` (R176). -/
  | ctlWrCpuCtrl (val : Word)
  /-- `CTL.RD.CPU_CTRL` (R177). -/
  | ctlRdCpuCtrl
  /-- `CTL.RD.CPU_STATUS` (R178). -/
  | ctlRdCpuStatus
  /-- `CTL.WR.CPU_STATUS` (R178). -/
  | ctlWrCpuStatus (val : Word)
  /-- `CTL.UNDEFINED` (R179). -/
  | ctlUndefined (dir : Dir) (off : Nat) (val : Word)
  /-- `MGMT.IN.reserved0` (R214). -/
  | mgmtInReserved0 (p : Payload)
  /-- `MGMT.IN.hello` (R214). -/
  | mgmtInHello (p : Payload)
  /-- `MGMT.IN.hello-ack` (R204). -/
  | mgmtInHelloAck (p : Payload)
  /-- `MGMT.IN.ping` (R212). -/
  | mgmtInPing (p : Payload)
  /-- `MGMT.IN.ping-ack` (R214). -/
  | mgmtInPingAck (p : Payload)
  /-- `MGMT.IN.endpoint-start` (R214). -/
  | mgmtInEndpointStart (p : Payload)
  /-- `MGMT.IN.set-iop-power-state` (R214). -/
  | mgmtInSetIopPowerState (p : Payload)
  /-- `MGMT.IN.power-state-ack` (R214). -/
  | mgmtInPowerStateAck (p : Payload)
  /-- `MGMT.IN.rollcall` (R210). -/
  | mgmtInRollcall (p : Payload)
  /-- `MGMT.IN.reserved9` (R214). -/
  | mgmtInReserved9 (p : Payload)
  /-- `MGMT.IN.reserved10` (R214). -/
  | mgmtInReserved10 (p : Payload)
  /-- `MGMT.IN.set-ap-power-state` (R214). -/
  | mgmtInSetApPowerState (p : Payload)
  /-- `MGMT.IN.reserved12` (R214). -/
  | mgmtInReserved12 (p : Payload)
  /-- `MGMT.IN.reserved13` (R214). -/
  | mgmtInReserved13 (p : Payload)
  /-- `MGMT.IN.reserved14` (R214). -/
  | mgmtInReserved14 (p : Payload)
  /-- `MGMT.IN.reserved15` (R214). -/
  | mgmtInReserved15 (p : Payload)
  /-- `MGMT.OUT.hello` (R200). -/
  | mgmtOutHello
  /-- `MGMT.OUT.ping-ack` (R212). -/
  | mgmtOutPingAck (p : Payload)
  /-- `MGMT.OUT.rollcall` (R206). -/
  | mgmtOutRollcall (mask : Word) (block : BitVec 6) (ended : Bool)
  /-- `MGMT.OUT.power-state-ack` (R210). -/
  | mgmtOutPowerStateAck
  /-- `MB.SEND` (R100). -/
  | mbSend (q : QId) (m : Message)
  /-- `MB.RECV` (R102). -/
  | mbRecv (q : QId)
  /-- `MB.SET_INT_MASK` (R104). -/
  | mbSetIntMask (w : Win) (bits : Word)
  /-- `MB.CLR_INT_MASK` (R105). -/
  | mbClrIntMask (w : Win) (bits : Word)
  /-- `MB.SET_DIR_EN` (R106). -/
  | mbSetDirEn (q : QId) (b : Bool)
  /-- `STATUS` (R108). -/
  | status (q : QId)
  /-- `send-to-AP` (R170). -/
  | sendToAp (m : Message)
  /-- `receive-from-AP` (R171). -/
  | receiveFromAp
  /-- `send-to-IOP` (R172). -/
  | sendToIop (m : Message)
  /-- `receive-from-IOP` (R173). -/
  | receiveFromIop
  /-- `register_control_endpoint` (R190). -/
  | registerControlEndpoint (id : Word) (handler : Nat)
  /-- `register_user_endpoint` (R191). -/
  | registerUserEndpoint (id : Word) (handler : Nat)
  /-- `send_control_message` (R194). -/
  | sendControlMessage (id : Word) (payload : Payload)
  /-- `send_user_message` (R195). -/
  | sendUserMessage (id : Word) (payload : Payload)
  /-- `START_OR_WAKEUP` (R200). -/
  | startOrWakeup
  /-- `BUILD_ROLLCALL` (R206). -/
  | buildRollcall
  /-- `BH.IOP` (R220). -/
  | bhIop
  /-- `BH AP`: the step `BH q` of the row `BH.IOP` for the other queue (20_memory.md R55, R58,
  30_encoding.md R90; log entry 18). -/
  | bhAp
  /-- `MGMT.DISPATCH` (R216). -/
  | mgmtDispatch (p : Payload)
  /-- `ROUTE.REGISTERED` (R222). -/
  | routeRegistered (m : Message)
  /-- `ROUTE.UNREGISTERED` (R224). -/
  | routeUnregistered (m : Message)
  /-- `RESET` (R270). -/
  | reset
deriving DecidableEq, Repr

end Sys2Proof
end

