-- ==== Sys2Proof/Machine/Fields.lean ====
section
/-! DEFINITION. Pure layouts: bytes and numbers, the message image (30_encoding.md R70), the register
maps (R74, R75), the management payloads (R80 to R85) and `BUILD_ROLLCALL` (43_rtbuddy_engine.md R206). -/

namespace Sys2Proof.Machine

/-- The number that a byte string spells, least significant byte first (20_memory.md R43). -/
def leNat : List Byte → Nat
  | [] => 0
  | b :: bs => b.toNat + 256 * leNat bs

/-- The `n` low bytes of `v`, least significant byte first. -/
def leBytes : Nat → Nat → List Byte
  | 0, _ => []
  | n + 1, v => BitVec.ofNat 8 v :: leBytes n (v / 256)

/-- `image(m)` of 30_encoding.md R70: payload lowest, flags highest. -/
def messageImage (m : Message) : BitVec 128 := (m.flags ++ m.endpoint) ++ m.msg

/-- `unimage(b)` of 30_encoding.md R70. -/
def imageMessage (b : BitVec 128) : Message where
  msg := b.extractLsb' 0 64
  endpoint := b.extractLsb' 64 32
  flags := b.extractLsb' 96 32

/-! ### Register maps -/

/-- The V2 register map (30_encoding.md R74). -/
def v2Map : List (Nat × Reg) :=
  [(0x00, .maskSet), (0x04, .maskClr), (0x08, .ctrl .iop),
   (0x10, .send .iop 0), (0x14, .send .iop 1), (0x18, .recv .iop 0), (0x1C, .recv .iop 1),
   (0x20, .ctrl .ap),
   (0x30, .send .ap 0), (0x34, .send .ap 1), (0x38, .recv .ap 0), (0x3C, .recv .ap 1)]

/-- The V4 register map (30_encoding.md R75); the first four offsets are parameters. -/
def v4Map (c : Config) : List (Nat × Reg) :=
  [(c.v4OffMaskSet, .maskSet), (c.v4OffMaskClr, .maskClr),
   (c.v4OffIopCtrl, .ctrl .iop), (c.v4OffApCtrl, .ctrl .ap),
   (0x700, .send .iop 0), (0x704, .send .iop 1), (0x708, .send .iop 2), (0x70C, .send .iop 3),
   (0x710, .recv .iop 0), (0x714, .recv .iop 1), (0x718, .recv .iop 2), (0x71C, .recv .iop 3),
   (0x720, .send .ap 0), (0x724, .send .ap 1), (0x728, .send .ap 2), (0x72C, .send .ap 3),
   (0x730, .recv .ap 0), (0x734, .recv .ap 1), (0x738, .recv .ap 2), (0x73C, .recv .ap 3)]

/-- The register at an offset of a window, selected by `GEN` (30_encoding.md R89); none where no row of
the map names the offset. -/
def regAt (c : Config) (off : Nat) : Option Reg :=
  match c.gen with
  | .v2 => v2Map.lookup off
  | .v4 => (v4Map c).lookup off

/-- The number of bytes of an access size. -/
def sizeBytes : Size → Nat
  | .b1 => 1
  | .b2 => 2
  | .b4 => 4
  | .b8 => 8

/-- An access of 32 bits at a multiple of 4, the only one with a meaning (20_memory.md R45). -/
def aligned32 (size : Size) (off : Nat) : Bool := size == .b4 && off % 4 == 0

/-- An offset of a space is an access to the block (20_memory.md R41): below `MMIO_SIZE` in a window; the
spec bounds the control-word space nowhere. -/
def insideSpace (c : Config) (sp : Space) (off : Nat) : Bool :=
  match sp with
  | .window _ => off < c.mmioSize
  | .control => true

/-! ### Management payloads -/

/-- `type(p)`: the 4-bit type field (30_encoding.md R80). -/
def mgmtType (c : Config) (p : Payload) : BitVec 4 := p.extractLsb' c.mgmtTypeLsb 4

/-- `MGMT(t)`: a payload of type `t` and no other field (43_rtbuddy_engine.md, helper notation). -/
def mgmtOf (c : Config) (t : BitVec 4) : Payload := t.setWidth 64 <<< c.mgmtTypeLsb

/-- The hello payload (30_encoding.md R82, 43_rtbuddy_engine.md R200): both version fields hold
`PROTOCOL_VERSION`. -/
def helloPayload (c : Config) : Payload :=
  mgmtOf c 1 ||| (c.protocolVersion.setWidth 64 <<< c.helloMajorLsb)
    ||| (c.protocolVersion.setWidth 64 <<< c.helloMinorLsb)

/-- The ping-ack of a ping: the same payload with the type field replaced by 4
(43_rtbuddy_engine.md R212). -/
def pingAckPayload (c : Config) (p : Payload) : Payload := (p &&& ~~~(mgmtOf c 0xF)) ||| mgmtOf c 4

/-- A rollcall payload (30_encoding.md R84). -/
def rollcallPayload (c : Config) (mask : Word) (block : BitVec 6) (ended : Bool) : Payload :=
  mgmtOf c 8 ||| (mask.setWidth 64 <<< c.rollcallMaskLsb)
    ||| (block.setWidth 64 <<< c.rollcallBlockLsb)
    ||| (if ended then 1#64 <<< c.rollcallEndedBit else 0)

/-- The `mask` field of a rollcall payload (30_encoding.md R84). -/
def rollcallMask (c : Config) (p : Payload) : Word := p.extractLsb' c.rollcallMaskLsb 32

/-- The `block` field of a rollcall payload (30_encoding.md R84). -/
def rollcallBlock (c : Config) (p : Payload) : BitVec 6 := p.extractLsb' c.rollcallBlockLsb 6

/-- The `ended` flag of a rollcall payload (30_encoding.md R84). -/
def rollcallEnded (c : Config) (p : Payload) : Bool := p.getLsbD c.rollcallEndedBit

/-- The rollcall messages the engine builds are either a populated block or the terminal message with
mask 0 and block 0 (43_rtbuddy_engine.md R206). -/
def rollcallEmitted (mask : Word) (block : BitVec 6) (ended : Bool) : Bool :=
  if ended then mask == 0 && block == 0 else mask != 0

/-- The power-state acknowledgment with value `PWR_STATE_ON` (30_encoding.md R85,
43_rtbuddy_engine.md R210). -/
def powerStateAckPayload (c : Config) : Payload := mgmtOf c 7 ||| (pwrStateOn <<< c.pwrStateLsb)

/-- The endpoint bitmask of block `b`: bit `e mod 32` for every registered wire id `e` with `e / 32 = b`
(43_rtbuddy_engine.md R206). -/
def blockMask (reg : List Endpoint) (b : Nat) : Word :=
  reg.foldl (fun mask e => if e.wire / 32 = b then mask ||| (1#32 <<< (e.wire % 32)) else mask) 0

/-- The rollcall message of block `b`, or none where the block has no handler. -/
def blockRollcall (c : Config) (b : Nat) : Option Payload :=
  if blockMask c.registry b = 0 then none
  else some (rollcallPayload c (blockMask c.registry b) (BitVec.ofNat 6 b) false)

/-- `BUILD_ROLLCALL(REGISTRY)` (43_rtbuddy_engine.md R206): one message per populated block in
ascending order, then the terminal message. -/
def buildRollcall (c : Config) : List Payload :=
  (List.range 64).filterMap (blockRollcall c) ++ [rollcallPayload c 0 0 true]

/-- The registry entry of a wire id: an exact lookup (43_rtbuddy_engine.md R192). -/
def lookupEndpoint (reg : List Endpoint) (wire : Nat) : Option Endpoint :=
  reg.find? (fun e => e.wire == wire)

/-- The registry with one more entry, kept in ascending wire id (43_rtbuddy_engine.md R192). -/
def insertEndpoint (e : Endpoint) : List Endpoint → List Endpoint
  | [] => [e]
  | x :: xs => if e.wire < x.wire then e :: x :: xs else x :: insertEndpoint e xs

/-- A message of the management endpoint or of a registered endpoint (43_rtbuddy_engine.md R222); the
others are unregistered (R224). -/
def routable (c : Config) (m : Message) : Bool :=
  m.endpoint == epMgmt || (lookupEndpoint c.registry m.endpoint.toNat).isSome

end Sys2Proof.Machine
end

