-- ==== Sys2Proof/WellFormed.lean ====
section
/-! DEFINITION. Which operations are well formed in a configuration: the row belongs to the channel's
generation, operands fit their fields, and a row that stands for a class of encodings holds one of
that class. -/

namespace Sys2Proof

open Sys2Proof.Machine

/-- Well-formedness of an operation. -/
def wellFormed (c : Config) (i : Instr) : Bool :=
  match i with
  | .v2WrMaskSet _ _ => c.gen == .v2
  | .v2RdMaskSet _ => c.gen == .v2
  | .v2WrMaskClr _ _ => c.gen == .v2
  | .v2RdMaskClr _ => c.gen == .v2
  | .v2WrIopCtrl _ _ => c.gen == .v2
  | .v2RdIopCtrl _ => c.gen == .v2
  | .v2WrIopSend0 _ _ => c.gen == .v2
  | .v2RdIopSend0 _ => c.gen == .v2
  | .v2WrIopSend1 _ _ => c.gen == .v2
  | .v2RdIopSend1 _ => c.gen == .v2
  | .v2WrIopRecv0 _ _ => c.gen == .v2
  | .v2RdIopRecv0 _ => c.gen == .v2
  | .v2WrIopRecv1 _ _ => c.gen == .v2
  | .v2RdIopRecv1 _ => c.gen == .v2
  | .v2WrApCtrl _ _ => c.gen == .v2
  | .v2RdApCtrl _ => c.gen == .v2
  | .v2WrApSend0 _ _ => c.gen == .v2
  | .v2RdApSend0 _ => c.gen == .v2
  | .v2WrApSend1 _ _ => c.gen == .v2
  | .v2RdApSend1 _ => c.gen == .v2
  | .v2WrApRecv0 _ _ => c.gen == .v2
  | .v2RdApRecv0 _ => c.gen == .v2
  | .v2WrApRecv1 _ _ => c.gen == .v2
  | .v2RdApRecv1 _ => c.gen == .v2
  | .v2Undefined _ dir off val => c.gen == .v2 && off % 4 == 0 && off < c.mmioSize && off < 2 ^ 44
      && (regAt c off).isNone && (dir == .write || val == 0)
  | .v4WrMaskSet _ _ => c.gen == .v4
  | .v4RdMaskSet _ => c.gen == .v4
  | .v4WrMaskClr _ _ => c.gen == .v4
  | .v4RdMaskClr _ => c.gen == .v4
  | .v4WrIopCtrl _ _ => c.gen == .v4
  | .v4RdIopCtrl _ => c.gen == .v4
  | .v4WrApCtrl _ _ => c.gen == .v4
  | .v4RdApCtrl _ => c.gen == .v4
  | .v4WrIopSend0 _ _ => c.gen == .v4
  | .v4RdIopSend0 _ => c.gen == .v4
  | .v4WrIopSend1 _ _ => c.gen == .v4
  | .v4RdIopSend1 _ => c.gen == .v4
  | .v4WrIopSend2 _ _ => c.gen == .v4
  | .v4RdIopSend2 _ => c.gen == .v4
  | .v4WrIopSend3 _ _ => c.gen == .v4
  | .v4RdIopSend3 _ => c.gen == .v4
  | .v4WrIopRecv0 _ _ => c.gen == .v4
  | .v4RdIopRecv0 _ => c.gen == .v4
  | .v4WrIopRecv1 _ _ => c.gen == .v4
  | .v4RdIopRecv1 _ => c.gen == .v4
  | .v4WrIopRecv2 _ _ => c.gen == .v4
  | .v4RdIopRecv2 _ => c.gen == .v4
  | .v4WrIopRecv3 _ _ => c.gen == .v4
  | .v4RdIopRecv3 _ => c.gen == .v4
  | .v4WrApSend0 _ _ => c.gen == .v4
  | .v4RdApSend0 _ => c.gen == .v4
  | .v4WrApSend1 _ _ => c.gen == .v4
  | .v4RdApSend1 _ => c.gen == .v4
  | .v4WrApSend2 _ _ => c.gen == .v4
  | .v4RdApSend2 _ => c.gen == .v4
  | .v4WrApSend3 _ _ => c.gen == .v4
  | .v4RdApSend3 _ => c.gen == .v4
  | .v4WrApRecv0 _ _ => c.gen == .v4
  | .v4RdApRecv0 _ => c.gen == .v4
  | .v4WrApRecv1 _ _ => c.gen == .v4
  | .v4RdApRecv1 _ => c.gen == .v4
  | .v4WrApRecv2 _ _ => c.gen == .v4
  | .v4RdApRecv2 _ => c.gen == .v4
  | .v4WrApRecv3 _ _ => c.gen == .v4
  | .v4RdApRecv3 _ => c.gen == .v4
  | .v4Undefined _ dir off val => c.gen == .v4 && off % 4 == 0 && off < c.mmioSize && off < 2 ^ 44
      && (regAt c off).isNone && (dir == .write || val == 0)
  | .regBadSize sp dir size off val => !(aligned32 size off) && off < 2 ^ 44 && insideSpace c sp off
      && (dir == .write || val == 0) && val < 2 ^ (8 * sizeBytes size)
  | .ctlWrCpuCtrl _ => true
  | .ctlRdCpuCtrl => true
  | .ctlRdCpuStatus => true
  | .ctlWrCpuStatus _ => true
  | .ctlUndefined dir off val => off % 4 == 0 && off < 2 ^ 44 && off != c.a7iopOffCpuCtrl && off != c.a7iopOffCpuStatus
      && (dir == .write || val == 0)
  | .mgmtInReserved0 p => mgmtType c p == 0
  | .mgmtInHello p => mgmtType c p == 1
  | .mgmtInHelloAck p => mgmtType c p == 2
  | .mgmtInPing p => mgmtType c p == 3
  | .mgmtInPingAck p => mgmtType c p == 4
  | .mgmtInEndpointStart p => mgmtType c p == 5
  | .mgmtInSetIopPowerState p => mgmtType c p == 6
  | .mgmtInPowerStateAck p => mgmtType c p == 7
  | .mgmtInRollcall p => mgmtType c p == 8
  | .mgmtInReserved9 p => mgmtType c p == 9
  | .mgmtInReserved10 p => mgmtType c p == 10
  | .mgmtInSetApPowerState p => mgmtType c p == 11
  | .mgmtInReserved12 p => mgmtType c p == 12
  | .mgmtInReserved13 p => mgmtType c p == 13
  | .mgmtInReserved14 p => mgmtType c p == 14
  | .mgmtInReserved15 p => mgmtType c p == 15
  | .mgmtOutHello => true
  | .mgmtOutPingAck p => mgmtType c p == 4
  | .mgmtOutRollcall mask block ended => rollcallEmitted mask block ended
  | .mgmtOutPowerStateAck => true
  | .mbSend _ _ => true
  | .mbRecv _ => true
  | .mbSetIntMask _ _ => true
  | .mbClrIntMask _ _ => true
  | .mbSetDirEn _ _ => true
  | .status _ => true
  | .sendToAp _ => true
  | .receiveFromAp => true
  | .sendToIop _ => true
  | .receiveFromIop => true
  | .registerControlEndpoint _ handler => handler < 2 ^ 32
  | .registerUserEndpoint _ handler => handler < 2 ^ 32
  | .sendControlMessage _ _ => true
  | .sendUserMessage _ _ => true
  | .startOrWakeup => true
  | .buildRollcall => true
  | .bhIop => true
  | .bhAp => true
  | .mgmtDispatch _ => true
  | .routeRegistered m => routable c m
  | .routeUnregistered m => !(routable c m)
  | .reset => true

end Sys2Proof
end

