-- ==== Sys2Proof/Decode.lean ====
section
/-! DEFINITION. The decoder, total on any request and rejecting by name, and after it the encoder, both
written from 30_encoding.md R70 to R91. The bytes of an access request spell a number whose bits are:
12:0 the access word (dir << 12 | off[11:0], R91), 14:13 the size (0 is 4 bytes), 15 zero, 79:16 the
written data, 111:80 off >> 12. The bytes of a management request spell the payload. The bytes of a
named request spell its operands in the order of the constructor (log entry 2). -/

namespace Sys2Proof

open Sys2Proof.Machine

/-- The size that a 2-bit code stands for; 0 is the 32-bit access. -/
def sizeOfCode (n : Nat) : Size :=
  match n with
  | 0 => .b4
  | 1 => .b1
  | 2 => .b2
  | _ => .b8

/-- The operation that an aligned 32-bit access to a register of a V2 window is (30_encoding.md R74). -/
def v2Instr (w : Win) (dir : Dir) (r : Reg) (val : Word) : Option Instr :=
  match dir, r with
  | .write, .maskSet => some (.v2WrMaskSet w val)
  | .read, .maskSet => some (.v2RdMaskSet w)
  | .write, .maskClr => some (.v2WrMaskClr w val)
  | .read, .maskClr => some (.v2RdMaskClr w)
  | .write, .ctrl .iop => some (.v2WrIopCtrl w val)
  | .read, .ctrl .iop => some (.v2RdIopCtrl w)
  | .write, .send .iop 0 => some (.v2WrIopSend0 w val)
  | .read, .send .iop 0 => some (.v2RdIopSend0 w)
  | .write, .send .iop 1 => some (.v2WrIopSend1 w val)
  | .read, .send .iop 1 => some (.v2RdIopSend1 w)
  | .write, .recv .iop 0 => some (.v2WrIopRecv0 w val)
  | .read, .recv .iop 0 => some (.v2RdIopRecv0 w)
  | .write, .recv .iop 1 => some (.v2WrIopRecv1 w val)
  | .read, .recv .iop 1 => some (.v2RdIopRecv1 w)
  | .write, .ctrl .ap => some (.v2WrApCtrl w val)
  | .read, .ctrl .ap => some (.v2RdApCtrl w)
  | .write, .send .ap 0 => some (.v2WrApSend0 w val)
  | .read, .send .ap 0 => some (.v2RdApSend0 w)
  | .write, .send .ap 1 => some (.v2WrApSend1 w val)
  | .read, .send .ap 1 => some (.v2RdApSend1 w)
  | .write, .recv .ap 0 => some (.v2WrApRecv0 w val)
  | .read, .recv .ap 0 => some (.v2RdApRecv0 w)
  | .write, .recv .ap 1 => some (.v2WrApRecv1 w val)
  | .read, .recv .ap 1 => some (.v2RdApRecv1 w)
  | _, _ => none

/-- The operation that an aligned 32-bit access to a register of a V4 window is (30_encoding.md R75). -/
def v4Instr (w : Win) (dir : Dir) (r : Reg) (val : Word) : Option Instr :=
  match dir, r with
  | .write, .maskSet => some (.v4WrMaskSet w val)
  | .read, .maskSet => some (.v4RdMaskSet w)
  | .write, .maskClr => some (.v4WrMaskClr w val)
  | .read, .maskClr => some (.v4RdMaskClr w)
  | .write, .ctrl .iop => some (.v4WrIopCtrl w val)
  | .read, .ctrl .iop => some (.v4RdIopCtrl w)
  | .write, .ctrl .ap => some (.v4WrApCtrl w val)
  | .read, .ctrl .ap => some (.v4RdApCtrl w)
  | .write, .send .iop 0 => some (.v4WrIopSend0 w val)
  | .read, .send .iop 0 => some (.v4RdIopSend0 w)
  | .write, .send .iop 1 => some (.v4WrIopSend1 w val)
  | .read, .send .iop 1 => some (.v4RdIopSend1 w)
  | .write, .send .iop 2 => some (.v4WrIopSend2 w val)
  | .read, .send .iop 2 => some (.v4RdIopSend2 w)
  | .write, .send .iop 3 => some (.v4WrIopSend3 w val)
  | .read, .send .iop 3 => some (.v4RdIopSend3 w)
  | .write, .recv .iop 0 => some (.v4WrIopRecv0 w val)
  | .read, .recv .iop 0 => some (.v4RdIopRecv0 w)
  | .write, .recv .iop 1 => some (.v4WrIopRecv1 w val)
  | .read, .recv .iop 1 => some (.v4RdIopRecv1 w)
  | .write, .recv .iop 2 => some (.v4WrIopRecv2 w val)
  | .read, .recv .iop 2 => some (.v4RdIopRecv2 w)
  | .write, .recv .iop 3 => some (.v4WrIopRecv3 w val)
  | .read, .recv .iop 3 => some (.v4RdIopRecv3 w)
  | .write, .send .ap 0 => some (.v4WrApSend0 w val)
  | .read, .send .ap 0 => some (.v4RdApSend0 w)
  | .write, .send .ap 1 => some (.v4WrApSend1 w val)
  | .read, .send .ap 1 => some (.v4RdApSend1 w)
  | .write, .send .ap 2 => some (.v4WrApSend2 w val)
  | .read, .send .ap 2 => some (.v4RdApSend2 w)
  | .write, .send .ap 3 => some (.v4WrApSend3 w val)
  | .read, .send .ap 3 => some (.v4RdApSend3 w)
  | .write, .recv .ap 0 => some (.v4WrApRecv0 w val)
  | .read, .recv .ap 0 => some (.v4RdApRecv0 w)
  | .write, .recv .ap 1 => some (.v4WrApRecv1 w val)
  | .read, .recv .ap 1 => some (.v4RdApRecv1 w)
  | .write, .recv .ap 2 => some (.v4WrApRecv2 w val)
  | .read, .recv .ap 2 => some (.v4RdApRecv2 w)
  | .write, .recv .ap 3 => some (.v4WrApRecv3 w val)
  | .read, .recv .ap 3 => some (.v4RdApRecv3 w)
  | _, _ => none

/-- The operation that an aligned 32-bit access to a window is; an offset without a register is the
generation's undefined row (41_register_facade.md R154). -/
def decodeWindow (c : Config) (w : Win) (dir : Dir) (off : Nat) (val : Word) : Instr :=
  match c.gen with
  | .v2 => ((regAt c off).bind (fun r => v2Instr w dir r val)).getD (.v2Undefined w dir off val)
  | .v4 => ((regAt c off).bind (fun r => v4Instr w dir r val)).getD (.v4Undefined w dir off val)

/-- The operation that an aligned 32-bit access to the control-word space is (30_encoding.md R78,
42_a7iop_core.md R176 to R179). -/
def decodeControl (c : Config) (dir : Dir) (off : Nat) (val : Word) : Instr :=
  if off = c.a7iopOffCpuCtrl then
    match dir with
    | .write => .ctlWrCpuCtrl val
    | .read => .ctlRdCpuCtrl
  else if off = c.a7iopOffCpuStatus then
    match dir with
    | .write => .ctlWrCpuStatus val
    | .read => .ctlRdCpuStatus
  else .ctlUndefined dir off val

/-- A bus access by its parts. An access beyond the window is none; one of another size or alignment is
`REG.BAD_SIZE` (20_memory.md R41, R45). -/
def decodeParts (c : Config) (sp : Space) (dir : Dir) (size : Size) (off val : Nat) :
    Except DecodeError Instr :=
  if dir = .read ∧ val ≠ 0 then .error .dataOnRead
  else if 2 ^ (8 * sizeBytes size) ≤ val then .error .dataTooWide
  else if insideSpace c sp off = false then .error .outsideWindow
  else if aligned32 size off = false then .ok (.regBadSize sp dir size off val)
  else
    match sp with
    | .window w => .ok (decodeWindow c w dir off (BitVec.ofNat 32 val))
    | .control => .ok (decodeControl c dir off (BitVec.ofNat 32 val))

/-- The number of bytes of an access request. -/
abbrev accessBytes : Nat := 14

/-- A bus access from the number its bytes spell. -/
def decodeAccess (c : Config) (sp : Space) (v : Nat) : Except DecodeError Instr :=
  if v / 2 ^ 15 % 2 = 1 then .error .reservedBit
  else
    decodeParts c sp (if v / 2 ^ 12 % 2 = 1 then .write else .read) (sizeOfCode (v / 2 ^ 13 % 4))
      (v % 2 ^ 12 + 2 ^ 12 * (v / 2 ^ 80 % 2 ^ 32)) (v / 2 ^ 16 % 2 ^ 64)

/-- An inbound management payload, selected by its type field alone (30_encoding.md R80, R81). -/
def decodeMgmtIn (c : Config) (p : Payload) : Instr :=
  match (mgmtType c p).toNat with
  | 0 => .mgmtInReserved0 p
  | 1 => .mgmtInHello p
  | 2 => .mgmtInHelloAck p
  | 3 => .mgmtInPing p
  | 4 => .mgmtInPingAck p
  | 5 => .mgmtInEndpointStart p
  | 6 => .mgmtInSetIopPowerState p
  | 7 => .mgmtInPowerStateAck p
  | 8 => .mgmtInRollcall p
  | 9 => .mgmtInReserved9 p
  | 10 => .mgmtInReserved10 p
  | 11 => .mgmtInSetApPowerState p
  | 12 => .mgmtInReserved12 p
  | 13 => .mgmtInReserved13 p
  | 14 => .mgmtInReserved14 p
  | _ => .mgmtInReserved15 p

/-- An outbound management payload (30_encoding.md R82 to R85): only what the engine sends. -/
def decodeMgmtOut (c : Config) (p : Payload) : Except DecodeError Instr :=
  match (mgmtType c p).toNat with
  | 1 => if p = helloPayload c then .ok .mgmtOutHello else .error .notEmitted
  | 4 => .ok (.mgmtOutPingAck p)
  | 7 => if p = powerStateAckPayload c then .ok .mgmtOutPowerStateAck else .error .notEmitted
  | 8 =>
    if p = rollcallPayload c (rollcallMask c p) (rollcallBlock c p) (rollcallEnded c p)
        ∧ rollcallEmitted (rollcallMask c p) (rollcallBlock c p) (rollcallEnded c p) = true then
      .ok (.mgmtOutRollcall (rollcallMask c p) (rollcallBlock c p) (rollcallEnded c p))
    else .error .notEmitted
  | _ => .error .notEmitted

/-- The queue that a byte names. -/
def queueOfByte (n : Nat) : Except DecodeError QId :=
  match n with
  | 0 => .ok .iop
  | 1 => .ok .ap
  | _ => .error .badQueue

/-- The window that a byte names. -/
def winOfByte (n : Nat) : Except DecodeError Win :=
  match n with
  | 0 => .ok .iopw
  | 1 => .ok .apw
  | _ => .error .badWindow

/-- The Boolean that a byte spells. -/
def boolOfByte (n : Nat) : Except DecodeError Bool :=
  match n with
  | 0 => .ok false
  | 1 => .ok true
  | _ => .error .badBool

/-- A message operand: the 16 bytes of its image. -/
def messageOfNat (n : Nat) : Message := imageMessage (BitVec.ofNat 128 n)

/-- The number of operand bytes of a named operation. -/
def opBytes (n : OpName) : Nat :=
  match n with
  | .mbSend => 1 + msgBytes
  | .mbRecv => 1
  | .mbSetIntMask => 5
  | .mbClrIntMask => 5
  | .mbSetDirEn => 2
  | .status => 1
  | .sendToAp => msgBytes
  | .receiveFromAp => 0
  | .sendToIop => msgBytes
  | .receiveFromIop => 0
  | .registerControlEndpoint => 8
  | .registerUserEndpoint => 8
  | .sendControlMessage => 12
  | .sendUserMessage => 12
  | .startOrWakeup => 0
  | .buildRollcall => 0
  | .bhIop => 0
  | .bhAp => 0
  | .mgmtDispatch => 8
  | .routeRegistered => msgBytes
  | .routeUnregistered => msgBytes
  | .reset => 0

/-- A named operation from the number its operand bytes spell. -/
def decodeNamed (c : Config) (n : OpName) (v : Nat) : Except DecodeError Instr :=
  match n with
  | .mbSend => (queueOfByte (v % 256)).map (fun q => .mbSend q (messageOfNat (v / 256)))
  | .mbRecv => (queueOfByte (v % 256)).map (fun q => .mbRecv q)
  | .mbSetIntMask => (winOfByte (v % 256)).map (fun w => .mbSetIntMask w (BitVec.ofNat 32 (v / 256)))
  | .mbClrIntMask => (winOfByte (v % 256)).map (fun w => .mbClrIntMask w (BitVec.ofNat 32 (v / 256)))
  | .mbSetDirEn =>
    (queueOfByte (v % 256)).bind (fun q => (boolOfByte (v / 256)).map (fun b => .mbSetDirEn q b))
  | .status => (queueOfByte (v % 256)).map (fun q => .status q)
  | .sendToAp => .ok (.sendToAp (messageOfNat v))
  | .receiveFromAp => .ok .receiveFromAp
  | .sendToIop => .ok (.sendToIop (messageOfNat v))
  | .receiveFromIop => .ok .receiveFromIop
  | .registerControlEndpoint => .ok (.registerControlEndpoint (BitVec.ofNat 32 v) (v / 2 ^ 32))
  | .registerUserEndpoint => .ok (.registerUserEndpoint (BitVec.ofNat 32 v) (v / 2 ^ 32))
  | .sendControlMessage => .ok (.sendControlMessage (BitVec.ofNat 32 v) (BitVec.ofNat 64 (v / 2 ^ 32)))
  | .sendUserMessage => .ok (.sendUserMessage (BitVec.ofNat 32 v) (BitVec.ofNat 64 (v / 2 ^ 32)))
  | .startOrWakeup => .ok .startOrWakeup
  | .buildRollcall => .ok .buildRollcall
  | .bhIop => .ok .bhIop
  | .bhAp => .ok .bhAp
  | .mgmtDispatch => .ok (.mgmtDispatch (BitVec.ofNat 64 v))
  | .routeRegistered =>
    if routable c (messageOfNat v) then .ok (.routeRegistered (messageOfNat v)) else .error .notThisRoute
  | .routeUnregistered =>
    if routable c (messageOfNat v) then .error .notThisRoute else .ok (.routeUnregistered (messageOfNat v))
  | .reset => .ok .reset

/-- The number of bytes of a request at a port. -/
def portBytes (p : Port) : Nat :=
  match p with
  | .space _ => accessBytes
  | .mgmtIn => 8
  | .mgmtOut => 8
  | .named n => opBytes n

/-- The decoder. -/
def decode (c : Config) (r : Request) : Except DecodeError Instr :=
  if r.bytes.length ≠ portBytes r.port then .error .badLength
  else
    match r.port with
    | .space sp => decodeAccess c sp (leNat r.bytes)
    | .mgmtIn => .ok (decodeMgmtIn c (BitVec.ofNat 64 (leNat r.bytes)))
    | .mgmtOut => decodeMgmtOut c (BitVec.ofNat 64 (leNat r.bytes))
    | .named n => decodeNamed c n (leNat r.bytes)

/-! ### The encoder -/

/-- The 2-bit code of an access size. -/
def sizeCode (s : Size) : Nat :=
  match s with
  | .b4 => 0
  | .b1 => 1
  | .b2 => 2
  | .b8 => 3

/-- The direction bit of an access word: 1 is a write (30_encoding.md R91). -/
def dirBit (d : Dir) : Nat :=
  match d with
  | .read => 0
  | .write => 1

/-- The number that spells a bus access. -/
def accessNat (dir : Dir) (size : Size) (off val : Nat) : Nat :=
  off % 2 ^ 12 + 2 ^ 12 * dirBit dir + 2 ^ 13 * sizeCode size + 2 ^ 16 * val + 2 ^ 80 * (off / 2 ^ 12)

/-- The request of a bus access. -/
def encodeAccess (sp : Space) (dir : Dir) (size : Size) (off val : Nat) : Request :=
  { port := .space sp, bytes := leBytes accessBytes (accessNat dir size off val) }

/-- The request of an aligned 32-bit read of a window. -/
def encodeRead (w : Win) (off : Nat) : Request := encodeAccess (.window w) .read .b4 off 0

/-- The request of an aligned 32-bit write of a window. -/
def encodeWrite (w : Win) (off : Nat) (val : Word) : Request :=
  encodeAccess (.window w) .write .b4 off val.toNat

/-- The request of an inbound management payload. -/
def encodeMgmtIn (p : Payload) : Request := { port := .mgmtIn, bytes := leBytes 8 p.toNat }

/-- The request of an outbound management payload. -/
def encodeMgmtOut (p : Payload) : Request := { port := .mgmtOut, bytes := leBytes 8 p.toNat }

/-- The request of a named operation whose operands spell `v`. -/
def encodeNamed (n : OpName) (v : Nat) : Request := { port := .named n, bytes := leBytes (opBytes n) v }

/-- The byte of a queue. -/
def queueByte (q : QId) : Nat :=
  match q with
  | .iop => 0
  | .ap => 1

/-- The byte of a window. -/
def winByte (w : Win) : Nat :=
  match w with
  | .iopw => 0
  | .apw => 1

/-- The number of a message operand. -/
def messageNat (m : Message) : Nat := (messageImage m).toNat

/-- The encoder: the request of an operation, each offset written from 30_encoding.md R74 and R75. -/
def encode (c : Config) (i : Instr) : Request :=
  match i with
  | .v2WrMaskSet w val => encodeWrite w 0x00 val
  | .v2RdMaskSet w => encodeRead w 0x00
  | .v2WrMaskClr w val => encodeWrite w 0x04 val
  | .v2RdMaskClr w => encodeRead w 0x04
  | .v2WrIopCtrl w val => encodeWrite w 0x08 val
  | .v2RdIopCtrl w => encodeRead w 0x08
  | .v2WrIopSend0 w val => encodeWrite w 0x10 val
  | .v2RdIopSend0 w => encodeRead w 0x10
  | .v2WrIopSend1 w val => encodeWrite w 0x14 val
  | .v2RdIopSend1 w => encodeRead w 0x14
  | .v2WrIopRecv0 w val => encodeWrite w 0x18 val
  | .v2RdIopRecv0 w => encodeRead w 0x18
  | .v2WrIopRecv1 w val => encodeWrite w 0x1C val
  | .v2RdIopRecv1 w => encodeRead w 0x1C
  | .v2WrApCtrl w val => encodeWrite w 0x20 val
  | .v2RdApCtrl w => encodeRead w 0x20
  | .v2WrApSend0 w val => encodeWrite w 0x30 val
  | .v2RdApSend0 w => encodeRead w 0x30
  | .v2WrApSend1 w val => encodeWrite w 0x34 val
  | .v2RdApSend1 w => encodeRead w 0x34
  | .v2WrApRecv0 w val => encodeWrite w 0x38 val
  | .v2RdApRecv0 w => encodeRead w 0x38
  | .v2WrApRecv1 w val => encodeWrite w 0x3C val
  | .v2RdApRecv1 w => encodeRead w 0x3C
  | .v2Undefined w dir off val => encodeAccess (.window w) dir .b4 off val.toNat
  | .v4WrMaskSet w val => encodeWrite w c.v4OffMaskSet val
  | .v4RdMaskSet w => encodeRead w c.v4OffMaskSet
  | .v4WrMaskClr w val => encodeWrite w c.v4OffMaskClr val
  | .v4RdMaskClr w => encodeRead w c.v4OffMaskClr
  | .v4WrIopCtrl w val => encodeWrite w c.v4OffIopCtrl val
  | .v4RdIopCtrl w => encodeRead w c.v4OffIopCtrl
  | .v4WrApCtrl w val => encodeWrite w c.v4OffApCtrl val
  | .v4RdApCtrl w => encodeRead w c.v4OffApCtrl
  | .v4WrIopSend0 w val => encodeWrite w 0x700 val
  | .v4RdIopSend0 w => encodeRead w 0x700
  | .v4WrIopSend1 w val => encodeWrite w 0x704 val
  | .v4RdIopSend1 w => encodeRead w 0x704
  | .v4WrIopSend2 w val => encodeWrite w 0x708 val
  | .v4RdIopSend2 w => encodeRead w 0x708
  | .v4WrIopSend3 w val => encodeWrite w 0x70C val
  | .v4RdIopSend3 w => encodeRead w 0x70C
  | .v4WrIopRecv0 w val => encodeWrite w 0x710 val
  | .v4RdIopRecv0 w => encodeRead w 0x710
  | .v4WrIopRecv1 w val => encodeWrite w 0x714 val
  | .v4RdIopRecv1 w => encodeRead w 0x714
  | .v4WrIopRecv2 w val => encodeWrite w 0x718 val
  | .v4RdIopRecv2 w => encodeRead w 0x718
  | .v4WrIopRecv3 w val => encodeWrite w 0x71C val
  | .v4RdIopRecv3 w => encodeRead w 0x71C
  | .v4WrApSend0 w val => encodeWrite w 0x720 val
  | .v4RdApSend0 w => encodeRead w 0x720
  | .v4WrApSend1 w val => encodeWrite w 0x724 val
  | .v4RdApSend1 w => encodeRead w 0x724
  | .v4WrApSend2 w val => encodeWrite w 0x728 val
  | .v4RdApSend2 w => encodeRead w 0x728
  | .v4WrApSend3 w val => encodeWrite w 0x72C val
  | .v4RdApSend3 w => encodeRead w 0x72C
  | .v4WrApRecv0 w val => encodeWrite w 0x730 val
  | .v4RdApRecv0 w => encodeRead w 0x730
  | .v4WrApRecv1 w val => encodeWrite w 0x734 val
  | .v4RdApRecv1 w => encodeRead w 0x734
  | .v4WrApRecv2 w val => encodeWrite w 0x738 val
  | .v4RdApRecv2 w => encodeRead w 0x738
  | .v4WrApRecv3 w val => encodeWrite w 0x73C val
  | .v4RdApRecv3 w => encodeRead w 0x73C
  | .v4Undefined w dir off val => encodeAccess (.window w) dir .b4 off val.toNat
  | .regBadSize sp dir size off val => encodeAccess sp dir size off val
  | .ctlWrCpuCtrl val => encodeAccess .control .write .b4 c.a7iopOffCpuCtrl val.toNat
  | .ctlRdCpuCtrl => encodeAccess .control .read .b4 c.a7iopOffCpuCtrl 0
  | .ctlRdCpuStatus => encodeAccess .control .read .b4 c.a7iopOffCpuStatus 0
  | .ctlWrCpuStatus val => encodeAccess .control .write .b4 c.a7iopOffCpuStatus val.toNat
  | .ctlUndefined dir off val => encodeAccess .control dir .b4 off val.toNat
  | .mgmtInReserved0 p => encodeMgmtIn p
  | .mgmtInHello p => encodeMgmtIn p
  | .mgmtInHelloAck p => encodeMgmtIn p
  | .mgmtInPing p => encodeMgmtIn p
  | .mgmtInPingAck p => encodeMgmtIn p
  | .mgmtInEndpointStart p => encodeMgmtIn p
  | .mgmtInSetIopPowerState p => encodeMgmtIn p
  | .mgmtInPowerStateAck p => encodeMgmtIn p
  | .mgmtInRollcall p => encodeMgmtIn p
  | .mgmtInReserved9 p => encodeMgmtIn p
  | .mgmtInReserved10 p => encodeMgmtIn p
  | .mgmtInSetApPowerState p => encodeMgmtIn p
  | .mgmtInReserved12 p => encodeMgmtIn p
  | .mgmtInReserved13 p => encodeMgmtIn p
  | .mgmtInReserved14 p => encodeMgmtIn p
  | .mgmtInReserved15 p => encodeMgmtIn p
  | .mgmtOutHello => encodeMgmtOut (helloPayload c)
  | .mgmtOutPingAck p => encodeMgmtOut p
  | .mgmtOutRollcall mask block ended => encodeMgmtOut (rollcallPayload c mask block ended)
  | .mgmtOutPowerStateAck => encodeMgmtOut (powerStateAckPayload c)
  | .mbSend q m => encodeNamed .mbSend (queueByte q + 2 ^ 8 * messageNat m)
  | .mbRecv q => encodeNamed .mbRecv (queueByte q)
  | .mbSetIntMask w bits => encodeNamed .mbSetIntMask (winByte w + 2 ^ 8 * bits.toNat)
  | .mbClrIntMask w bits => encodeNamed .mbClrIntMask (winByte w + 2 ^ 8 * bits.toNat)
  | .mbSetDirEn q b => encodeNamed .mbSetDirEn (queueByte q + 2 ^ 8 * b.toNat)
  | .status q => encodeNamed .status (queueByte q)
  | .sendToAp m => encodeNamed .sendToAp (messageNat m)
  | .receiveFromAp => encodeNamed .receiveFromAp (0)
  | .sendToIop m => encodeNamed .sendToIop (messageNat m)
  | .receiveFromIop => encodeNamed .receiveFromIop (0)
  | .registerControlEndpoint id handler => encodeNamed .registerControlEndpoint (id.toNat + 2 ^ 32 * handler)
  | .registerUserEndpoint id handler => encodeNamed .registerUserEndpoint (id.toNat + 2 ^ 32 * handler)
  | .sendControlMessage id payload => encodeNamed .sendControlMessage (id.toNat + 2 ^ 32 * payload.toNat)
  | .sendUserMessage id payload => encodeNamed .sendUserMessage (id.toNat + 2 ^ 32 * payload.toNat)
  | .startOrWakeup => encodeNamed .startOrWakeup (0)
  | .buildRollcall => encodeNamed .buildRollcall (0)
  | .bhIop => encodeNamed .bhIop (0)
  | .bhAp => encodeNamed .bhAp (0)
  | .mgmtDispatch p => encodeNamed .mgmtDispatch (p.toNat)
  | .routeRegistered m => encodeNamed .routeRegistered (messageNat m)
  | .routeUnregistered m => encodeNamed .routeUnregistered (messageNat m)
  | .reset => encodeNamed .reset (0)

/-! ### Bare words of the opcode table -/

/-- The generation whose rows fix an access word: only V4 rows have offsets of 0x700 to 0x73C
(30_encoding.md R74, R75; log entry 14). -/
def genOfTableWord (w : Nat) : Gen := if 0x700 ≤ w % 2 ^ 12 ∧ w % 2 ^ 12 ≤ 0x73C then .v4 else .v2

/-- The request of a bare word of the opcode table: up to 32 bits an access to window `APW` (every bit above
is zero: a 32-bit access of data zero), up to 64 bits an inbound management payload (log entry 14). -/
def tableRequest (nbits w : Nat) : Option Request :=
  if nbits = 0 then none
  else if nbits ≤ 32 then some { port := .space (.window .apw), bytes := leBytes accessBytes w }
  else if nbits ≤ 64 then some { port := .mgmtIn, bytes := leBytes 8 w }
  else none

/-- The configuration `c` with the generation that a bare word of the opcode table needs. -/
def tableConfig (c : Config) (nbits w : Nat) : Config :=
  if nbits ≤ 32 then { c with gen := genOfTableWord w } else c

/-- The operation that the decoder reads from a bare word of the opcode table. -/
def decodeTableWord (nbits w : Nat) : Option Instr :=
  match tableRequest nbits w with
  | none => none
  | some r =>
    match decode (tableConfig Config.default nbits w) r with
    | .ok i => some i
    | .error _ => none

end Sys2Proof
end

