-- ==== Sys2Proof/Machine/State.lean ====
section
/-! DEFINITION. The state of one channel (10_state.md R10) as plain data, the reasons a step can stop,
and the state after reset (70_reset_and_hazards.md R270, R271). -/

namespace Sys2Proof.Machine

/-- The block has no trap mechanism and nothing in it is a fault (60_exceptions.md R250,
93_implementation_defined.md section 1): no fault exists, so no step can end in one. -/
inductive Fault
deriving DecidableEq, Repr

/-- Why the model gives a step no successor state. -/
inductive Refusal
  /-- An operation without a meaning yet; raised by no arm of `exec`. Safe. -/
  | notModelled (mnemonic : String)
  /-- The request is no operation of the channel; raised by `step`. Safe: the machine stops. -/
  | undecodable (e : DecodeError)
  /-- A write of a receive word; raised by the rows of 41_register_facade.md R152 (U5). Safe. -/
  | receiveWordWrite
  /-- An offset that no row of the register table names; raised by V2.UNDEFINED and V4.UNDEFINED
  (41_register_facade.md R154, U1). Safe. -/
  | undefinedOffset
  /-- An access of another size than 4 bytes or at an offset that is no multiple of 4; raised by
  REG.BAD_SIZE (41_register_facade.md R156, U2). Safe. -/
  | badAccess
  /-- A write of the coprocessor status word; raised by CTL.WR.CPU_STATUS (42_a7iop_core.md R178, U6).
  Safe. -/
  | statusWordWrite
  /-- Any other offset of the control-word space; raised by CTL.UNDEFINED (42_a7iop_core.md R179, U1).
  Safe. -/
  | undefinedControlOffset
  /-- A registration with an id outside the admitted range (43_rtbuddy_engine.md R190, R191, U8). Safe. -/
  | registrationIdOutOfRange
  /-- A second registration of a wire id (43_rtbuddy_engine.md R190, U8). Safe. -/
  | duplicateRegistration
  /-- A registration after the channel's first step (43_rtbuddy_engine.md R190, U8). Safe. -/
  | lateRegistration
  /-- `send_control_message` with `id >= 32` or `send_user_message` with `id > 2015`, by a consumer or as a
  handler's reply (43_rtbuddy_engine.md R194, R195, U7). Safe. -/
  | endpointIdOutOfRange
  /-- `BH q` while the callback of queue `q` is not pending: the step is not enabled (20_memory.md R58,
  43_rtbuddy_engine.md R220). Safe. -/
  | callbackNotPending
deriving DecidableEq, Repr

/-- The coprocessor run state (10_state.md R20). -/
inductive RunState
  | idle
  | running
deriving DecidableEq, Repr

/-- The protocol state of the management endpoint (10_state.md R22). -/
inductive Ep0Status
  | idle
  | waitHello
  | waitRollcall
deriving DecidableEq, Repr

/-- The diagnostics of 60_exceptions.md R241. -/
inductive Diag
  | disabledSend (q : QId)
  | disabledRecv (q : QId)
  | underflow (q : QId)
  | desync (type : BitVec 4) (state : Ep0Status)
  | mgmtDropped (type : BitVec 4)
  | unregisteredEp (endpoint : Word)
  | startNotIdle (state : Ep0Status)
deriving DecidableEq, Repr

/-- What the channel shows outside itself besides its interrupt lines: diagnostics (60_exceptions.md
R240) and deliveries to handlers (43_rtbuddy_engine.md R222). -/
inductive Event
  | diag (d : Diag)
  | deliver (handler : Nat) (ep : Word) (user : Bool) (payload : Payload)
deriving DecidableEq, Repr

/-- A call by which a handler answers a delivery (43_rtbuddy_engine.md R226). -/
inductive Reply
  | control (id : Word) (payload : Payload)
  | user (id : Word) (payload : Payload)
deriving DecidableEq, Repr

/-- The value an operation returns. -/
inductive Result
  | none
  | word (v : Word)
  | message (m : Option Message)
  | payloads (ps : List Payload)
deriving DecidableEq, Repr

/-- The words of a staging register or receive cache (10_state.md R11, R12). V4 has four; V2 uses the
first two and leaves the others zero (log entry 17). -/
structure Slot where
  w0 : Word
  w1 : Word
  w2 : Word
  w3 : Word
deriving DecidableEq, Repr

/-- One queue with its flags (10_state.md R14 to R17, R24). -/
structure QueueState where
  inbox     : List Message
  count     : Nat
  underflow : Bool
  en        : Bool
  bhPending : Bool
deriving DecidableEq, Repr

/-- One register window: its mask word, and for each queue its staging register and receive cache
(10_state.md R11, R12, R18). -/
structure WindowState where
  intMask  : Word
  stageIop : Slot
  stageAp  : Slot
  cacheIop : Slot
  cacheAp  : Slot
deriving DecidableEq, Repr

/-- The state of one channel (10_state.md R10): its configuration, its architectural state, and the
model's own fields `inputs`, `replies`, `trace`, `result`, `freeIdx` and `live` (log entries 1, 6, 7,
9, 10, 11). -/
structure State where
  cfg       : Config
  iop       : QueueState
  ap        : QueueState
  iopw      : WindowState
  apw       : WindowState
  runState  : RunState
  cpuCtrl   : Word
  ep0Status : Ep0Status
  rollcallQ : List Payload
  inputs    : List Request
  replies   : List (List Reply)
  trace     : List Event
  result    : Result
  freeIdx   : Nat
  live      : Bool
deriving DecidableEq, Repr

/-- All words zero. -/
def Slot.zero : Slot := ⟨0, 0, 0, 0⟩

/-- A queue after reset (70_reset_and_hazards.md R271). -/
def QueueState.reset : QueueState :=
  { inbox := [], count := 0, underflow := false, en := true, bhPending := false }

/-- A window after reset (70_reset_and_hazards.md R271). -/
def WindowState.reset : WindowState :=
  { intMask := 0, stageIop := .zero, stageAp := .zero, cacheIop := .zero, cacheAp := .zero }

/-- The state after reset (70_reset_and_hazards.md R271, R273), with the configuration of log entries 4
and 5 and no request pending. -/
def State.reset : State where
  cfg := Config.default
  iop := .reset
  ap := .reset
  iopw := .reset
  apw := .reset
  runState := .idle
  cpuCtrl := 0
  ep0Status := .idle
  rollcallQ := []
  inputs := []
  replies := []
  trace := []
  result := .none
  freeIdx := 0
  live := false

/-- Queue `q`. -/
def State.queue (s : State) (q : QId) : QueueState :=
  match q with
  | .iop => s.iop
  | .ap => s.ap

/-- The state with queue `q` replaced. -/
def State.setQueue (s : State) (q : QId) (v : QueueState) : State :=
  match q with
  | .iop => { s with iop := v }
  | .ap => { s with ap := v }

/-- Window `w`. -/
def State.window (s : State) (w : Win) : WindowState :=
  match w with
  | .iopw => s.iopw
  | .apw => s.apw

/-- The state with window `w` replaced. -/
def State.setWindow (s : State) (w : Win) (v : WindowState) : State :=
  match w with
  | .iopw => { s with iopw := v }
  | .apw => { s with apw := v }

/-- `send_stage[w][q]` of a window. -/
def WindowState.stage (x : WindowState) (q : QId) : Slot :=
  match q with
  | .iop => x.stageIop
  | .ap => x.stageAp

/-- The window with `send_stage[w][q]` replaced. -/
def WindowState.setStage (x : WindowState) (q : QId) (v : Slot) : WindowState :=
  match q with
  | .iop => { x with stageIop := v }
  | .ap => { x with stageAp := v }

/-- `recv_cache[w][q]` of a window. -/
def WindowState.cache (x : WindowState) (q : QId) : Slot :=
  match q with
  | .iop => x.cacheIop
  | .ap => x.cacheAp

/-- The window with `recv_cache[w][q]` replaced. -/
def WindowState.setCache (x : WindowState) (q : QId) (v : Slot) : WindowState :=
  match q with
  | .iop => { x with cacheIop := v }
  | .ap => { x with cacheAp := v }

end Sys2Proof.Machine
end

