-- ==== Sys2Proof/Machine/Flags.lean ====
section
/-! DEFINITION. Every flag and status value that is computed from the state: the status word
(40_mailbox_ops.md R108), the interrupt lines (10_state.md R19), the depth stamp (30_encoding.md R72)
and the coprocessor status word (42_a7iop_core.md R178). -/

namespace Sys2Proof.Machine

/-- `FULL(q)` (10_state.md, after R17). -/
def isFull (q : QueueState) : Bool := maxDepth ≤ q.count

/-- `EMPTY(q)`. -/
def isEmpty (q : QueueState) : Bool := q.count == 0

/-- `OVERFLOW(q)`. -/
def isOverflow (q : QueueState) : Bool := maxDepth < q.count

/-- One bit of a word, at position `pos`, set when `b`. -/
def flagBit (b : Bool) (pos : Nat) : Word := if b then 1#32 <<< pos else 0

/-- `STATUS(q)` (40_mailbox_ops.md R108). -/
def statusWord (c : Config) (q : QueueState) : Word :=
  flagBit q.en ctrlEnableBit
    ||| flagBit (isFull q) c.ctrlFullBit
    ||| flagBit (isEmpty q) c.ctrlEmptyBit
    ||| flagBit (isOverflow q) c.ctrlOverflowBit
    ||| flagBit q.underflow c.ctrlUnderflowBit
    ||| (BitVec.ofNat 32 (q.count % 2 ^ c.ctrlCountWidth) <<< c.ctrlCountLsb)

/-- `DEPTH_MASK` (40_mailbox_ops.md R102). -/
def depthMask (c : Config) : Word := BitVec.ofNat 32 (2 ^ c.flagsDepthWidth - 1) <<< flagsDepthLsb

/-- The message with the queue depth before the pop stamped into its flags (40_mailbox_ops.md R102). -/
def stampDepth (c : Config) (depth : Nat) (m : Message) : Message :=
  { m with
    flags := (m.flags &&& ~~~(depthMask c))
      ||| (BitVec.ofNat 32 (depth % 2 ^ c.flagsDepthWidth) <<< flagsDepthLsb) }

/-- The coprocessor status word (42_a7iop_core.md R178). -/
def cpuStatusWord (c : Config) (r : RunState) : Word := flagBit (r == .idle) c.cpuStatusIdleBit

/-- The four interrupt lines of a window: for each queue "nonempty" and "empty" (10_state.md R19). -/
inductive Line
  | nonempty (q : QId)
  | empty (q : QId)
deriving DecidableEq, Repr

/-- `IRQBIT_L`: the mask bit of a line (30_encoding.md R77). -/
def irqBit (c : Config) (l : Line) : Nat :=
  match l with
  | .nonempty .iop => c.irqbitIopNonempty
  | .nonempty .ap => c.irqbitApNonempty
  | .empty .iop => c.irqbitIopEmpty
  | .empty .ap => c.irqbitApEmpty

/-- `permit(w, L)`: the mask bit of the line is 0 (10_state.md R19). -/
def permit (s : State) (w : Win) (l : Line) : Bool := !((s.window w).intMask.getLsbD (irqBit s.cfg l))

/-- `irq[w][L]` (10_state.md R19): a level, computed from the state. -/
def irq (s : State) (w : Win) (l : Line) : Bool :=
  match l with
  | .nonempty q => (!(isEmpty (s.queue q)) && permit s w l) || (s.queue q).underflow
  | .empty q =>
    (isEmpty (s.queue q) && permit s w l)
      || (s.cfg.underflowAssertsEmptyLine && (s.queue q).underflow)

end Sys2Proof.Machine
end

