-- ==== Sys2Proof/Machine/Operands.lean ====
section
/-! DEFINITION. The operand forms of the register facade: the words of a message slot
(30_encoding.md R71), for both generations. -/

namespace Sys2Proof.Machine

/-- Word `k` of a slot. -/
def slotWord (x : Slot) (k : Nat) : Word :=
  match k with
  | 0 => x.w0
  | 1 => x.w1
  | 2 => x.w2
  | _ => x.w3

/-- The slot with word `k` replaced. -/
def setSlotWord (x : Slot) (k : Nat) (v : Word) : Slot :=
  match k with
  | 0 => { x with w0 := v }
  | 1 => { x with w1 := v }
  | 2 => { x with w2 := v }
  | _ => { x with w3 := v }

/-- The index of the commit word, `NWORDS - 1` (41_register_facade.md R142). -/
def lastWord (g : Gen) : Nat :=
  match g with
  | .v2 => 1
  | .v4 => 3

/-- The 128-bit image that a commit composes from a staging register (41_register_facade.md R142): in V2
the upper 64 bits are zero. -/
def slotImage (g : Gen) (x : Slot) : BitVec 128 :=
  match g with
  | .v2 => (x.w1 ++ x.w0).setWidth 128
  | .v4 => ((x.w3 ++ x.w2) ++ x.w1) ++ x.w0

/-- The words of a receive cache that hold an image (41_register_facade.md R146): word `k` is image bits
`32k+31 : 32k` for `k < NWORDS`. -/
def imageSlot (g : Gen) (b : BitVec 128) : Slot :=
  match g with
  | .v2 => ⟨b.extractLsb' 0 32, b.extractLsb' 32 32, 0, 0⟩
  | .v4 => ⟨b.extractLsb' 0 32, b.extractLsb' 32 32, b.extractLsb' 64 32, b.extractLsb' 96 32⟩

end Sys2Proof.Machine
end

