-- ==== Sys2Proof/Machine/Ops.lean ====
section
/-! DEFINITION. The named operations that the meanings share: the transport (40_mailbox_ops.md), the
register facade (41_register_facade.md), the A7IOP core (42_a7iop_core.md) and the RTBuddy engine
(43_rtbuddy_engine.md). The block has no exception entry and no exception return (60_exceptions.md
R250, R251): `emit` of a diagnostic is its counterpart of raising, and changes no control flow (R240). -/

namespace Sys2Proof.Machine

/-! ### Outputs -/

/-- Append an event to the trace. -/
def emit (e : Event) (s : State) : State := { s with trace := s.trace ++ [e] }

/-- `diag(K, info)` (60_exceptions.md R240). -/
def diag (d : Diag) (s : State) : State := emit (.diag d) s

/-- `return v`. -/
def give (r : Result) (s : State) : State := { s with result := r }

/-! ### Transport -/

/-- `BH_REGISTERED[q]` (00_scope.md R4). -/
def bhRegistered (c : Config) (q : QId) : Bool :=
  match q with
  | .iop => c.bhRegisteredIop
  | .ap => c.bhRegisteredAp

/-- `MB.SEND(q, m)` (40_mailbox_ops.md R100): dropped when the direction is disabled, else always
accepted. -/
def mbSend (q : QId) (m : Message) (s : State) : State :=
  if (s.queue q).en then
    s.setQueue q
      { s.queue q with
        inbox := (s.queue q).inbox ++ [m]
        count := (s.queue q).count + 1
        bhPending := (s.queue q).bhPending || bhRegistered s.cfg q }
  else diag (.disabledSend q) s

/-- `MB.RECV(q)` (40_mailbox_ops.md R102): the tests in the order disabled, latched, empty. The branch of a
positive count over an empty list is reached from no state with `count[q] = length(inbox[q])`
(10_state.md R15; log entry 16). -/
def mbRecv (q : QId) (s : State) : Option Message × State :=
  if (s.queue q).en = false then (none, diag (.disabledRecv q) s)
  else if (s.queue q).underflow then (none, s)
  else if (s.queue q).count = 0 then
    (none, diag (.underflow q) (s.setQueue q { s.queue q with underflow := true }))
  else
    match (s.queue q).inbox with
    | [] => (none, s)
    | m :: rest =>
      (some (stampDepth s.cfg (s.queue q).count m),
        s.setQueue q { s.queue q with inbox := rest, count := (s.queue q).count - 1 })

/-- `MB.SET_INT_MASK(w, bits)` (40_mailbox_ops.md R104). -/
def setIntMask (w : Win) (bits : Word) (s : State) : State :=
  s.setWindow w { s.window w with intMask := (s.window w).intMask ||| bits }

/-- `MB.CLR_INT_MASK(w, bits)` (40_mailbox_ops.md R105). -/
def clrIntMask (w : Win) (bits : Word) (s : State) : State :=
  s.setWindow w { s.window w with intMask := (s.window w).intMask &&& ~~~bits }

/-- `MB.SET_DIR_EN(q, b)` (40_mailbox_ops.md R106). -/
def setDirEn (q : QId) (b : Bool) (s : State) : State := s.setQueue q { s.queue q with en := b }

/-! ### Register facade -/

/-- Read of a direction-control register: returns `STATUS(q)`, no side effect (41_register_facade.md
R136). -/
def readControl (q : QId) (s : State) : State := give (.word (statusWord s.cfg (s.queue q))) s

/-- Write of a direction-control register: bit 0 is the enable bit, bits 31:1 are ignored
(41_register_facade.md R138). -/
def writeControl (q : QId) (val : Word) (s : State) : State := setDirEn q (val.getLsbD ctrlEnableBit) s

/-- Write of send word `k`: buffered in the staging register (41_register_facade.md R140). -/
def stageWord (w : Win) (q : QId) (k : Nat) (val : Word) (s : State) : State :=
  s.setWindow w ((s.window w).setStage q (setSlotWord ((s.window w).stage q) k val))

/-- Write of the last send word: staged, then committed by one `MB.SEND` (41_register_facade.md R142). -/
def commitSend (g : Gen) (w : Win) (q : QId) (val : Word) (s : State) : State :=
  mbSend q
    (imageMessage (slotImage g (((stageWord w q (lastWord g) val s).window w).stage q)))
    (stageWord w q (lastWord g) val s)

/-- The receive cache that a pop leaves (41_register_facade.md R146): all zero when there is no message. -/
def cacheOf (g : Gen) (r : Option Message) : Slot :=
  match r with
  | none => Slot.zero
  | some m => imageSlot g (messageImage m)

/-- The state with the receive cache of window `w` and queue `q` filled. -/
def fillCache (w : Win) (q : QId) (x : Slot) (s : State) : State :=
  s.setWindow w ((s.window w).setCache q x)

/-- Read of receive word 0: one `MB.RECV`, the cache filled or zeroed, word 0 returned
(41_register_facade.md R146). -/
def popReceive (g : Gen) (w : Win) (q : QId) (s : State) : State :=
  give (.word (slotWord (cacheOf g (mbRecv q s).1) 0))
    (fillCache w q (cacheOf g (mbRecv q s).1) (mbRecv q s).2)

/-- Read of receive word `k > 0`: served from the cache (41_register_facade.md R148). -/
def readCached (w : Win) (q : QId) (k : Nat) (s : State) : State :=
  give (.word (slotWord ((s.window w).cache q) k)) s

/-- A read whose value the spec leaves unconstrained (41_register_facade.md R134, R150): no state element
changes and the value is free (log entry 6). -/
def readFree (s : State) : State :=
  { s with result := .word (Config.freeWord s.freeIdx), freeIdx := s.freeIdx + 1 }

/-! ### A7IOP core -/

/-- `send-to-AP(m)` (42_a7iop_core.md R170). -/
def sendToAp (m : Message) (s : State) : State := mbSend .ap m s

/-- `receive-from-AP()` (42_a7iop_core.md R171): what the AP sent waits in queue IOP. -/
def receiveFromAp (s : State) : Option Message × State := mbRecv .iop s

/-- `send-to-IOP(m)` (42_a7iop_core.md R172). -/
def sendToIop (m : Message) (s : State) : State := mbSend .iop m s

/-- `receive-from-IOP()` (42_a7iop_core.md R173). -/
def receiveFromIop (s : State) : Option Message × State := mbRecv .ap s

/-- A receive operation that returns its message. -/
def giveMessage (r : Option Message × State) : State := give (.message r.1) r.2

/-! ### RTBuddy engine: sends and bring-up -/

/-- `send_mgmt(p)` (43_rtbuddy_engine.md, helper notation). -/
def sendMgmt (p : Payload) (s : State) : State := sendToAp ⟨p, epMgmt, 0⟩ s

/-- Start or wakeup event (43_rtbuddy_engine.md R200). -/
def startOrWakeup (s : State) : State :=
  if s.ep0Status = .idle then { sendMgmt (helloPayload s.cfg) s with ep0Status := .waitHello }
  else diag (.startNotIdle s.ep0Status) s

/-- The hook of the A7IOP core, `start` and `wakeup` alike (42_a7iop_core.md R180). -/
def invokeHook (s : State) : State :=
  match s.cfg.hookTarget with
  | .engine => startOrWakeup s
  | .nothing => s

/-- Write of the coprocessor control word (42_a7iop_core.md R176, R182): stored; with the run bit set the
core runs, and `start` (from idle) or `wakeup` (from running) is invoked. -/
def writeCpuCtrl (val : Word) (s : State) : State :=
  if val.getLsbD s.cfg.cpuCtrlRunBit then
    invokeHook { s with cpuCtrl := val, runState := .running }
  else { s with cpuCtrl := val }

/-- Inbound hello-ack (43_rtbuddy_engine.md R204). -/
def inHelloAck (p : Payload) (s : State) : State :=
  if s.ep0Status = .waitHello then
    match buildRollcall s.cfg with
    | [] => { s with ep0Status := .waitRollcall, rollcallQ := [] }
    | first :: rest => sendMgmt first { s with ep0Status := .waitRollcall, rollcallQ := rest }
  else diag (.desync (mgmtType s.cfg p) s.ep0Status) s

/-- Inbound rollcall: the peer's echo (43_rtbuddy_engine.md R210). -/
def inRollcall (p : Payload) (s : State) : State :=
  if s.ep0Status = .waitRollcall then
    match s.rollcallQ with
    | next :: rest => sendMgmt next { s with rollcallQ := rest }
    | [] => { sendMgmt (powerStateAckPayload s.cfg) s with ep0Status := .idle }
  else diag (.desync (mgmtType s.cfg p) s.ep0Status) s

/-- Inbound ping: answered in every state (43_rtbuddy_engine.md R212). -/
def inPing (p : Payload) (s : State) : State := sendMgmt (pingAckPayload s.cfg p) s

/-- Every other inbound management type: dropped (43_rtbuddy_engine.md R214). -/
def inDropped (p : Payload) (s : State) : State := diag (.mgmtDropped (mgmtType s.cfg p)) s

/-- `mgmt(p)`: management dispatch by the type field alone (43_rtbuddy_engine.md R216). -/
def mgmt (p : Payload) (s : State) : State :=
  match (mgmtType s.cfg p).toNat with
  | 2 => inHelloAck p s
  | 8 => inRollcall p s
  | 3 => inPing p s
  | _ => inDropped p s

/-! ### RTBuddy engine: consumers and routing -/

/-- `send_control_message(id, payload)` (43_rtbuddy_engine.md R194). -/
def sendControl (id : Word) (payload : Payload) (s : State) : Except Refusal State :=
  if id.toNat < userEpBase then .ok (sendToAp ⟨payload, id, 0⟩ s) else .error .endpointIdOutOfRange

/-- `send_user_message(id, payload)` (43_rtbuddy_engine.md R195). -/
def sendUser (id : Word) (payload : Payload) (s : State) : Except Refusal State :=
  if id.toNat + userEpBase ≤ maxWire then
    .ok (sendToAp ⟨payload, id + BitVec.ofNat 32 userEpBase, 0⟩ s)
  else .error .endpointIdOutOfRange

/-- One reply of a handler (43_rtbuddy_engine.md R226). -/
def performReply (r : Reply) (s : State) : Except Refusal State :=
  match r with
  | .control id payload => sendControl id payload s
  | .user id payload => sendUser id payload s

/-- The replies of a handler, in order (43_rtbuddy_engine.md R222). -/
def performReplies : List Reply → State → Except Refusal State
  | [], s => .ok s
  | r :: rs, s =>
    match performReply r s with
    | .error e => .error e
    | .ok s' => performReplies rs s'

/-- `deliver(h, ep, user, payload)` to the handler of a registry entry, and the replies that the
environment chose for this delivery (43_rtbuddy_engine.md R222, R226; log entry 7). A user endpoint is
delivered with its local number. -/
def deliverTo (e : Endpoint) (m : Message) (s : State) : Except Refusal State :=
  performReplies (s.replies.headD [])
    (emit
      (if m.endpoint.toNat < userEpBase then .deliver e.handler m.endpoint false m.msg
       else .deliver e.handler (m.endpoint - BitVec.ofNat 32 userEpBase) true m.msg)
      { s with replies := s.replies.tail })

/-- An unregistered endpoint: logged and dropped (43_rtbuddy_engine.md R224). -/
def dropUnregistered (m : Message) (s : State) : State := diag (.unregisteredEp m.endpoint) s

/-- `route(m)` (43_rtbuddy_engine.md R222, R224). -/
def route (m : Message) (s : State) : Except Refusal State :=
  if m.endpoint = epMgmt then .ok (mgmt m.msg s)
  else
    match lookupEndpoint s.cfg.registry m.endpoint.toNat with
    | some e => deliverTo e m s
    | none => .ok (dropUnregistered m s)

/-- The guard of the dispatch loop (43_rtbuddy_engine.md R220). -/
def loopGuard (s : State) : Bool := s.iop.en && !s.iop.underflow && s.iop.count != 0

/-- The dispatch loop (43_rtbuddy_engine.md R220). Every iteration pops one message and nothing pushes
onto queue IOP, so `count[IOP]` iterations end it. -/
def dispatchLoop : Nat → State → Except Refusal State
  | 0, s => .ok s
  | n + 1, s =>
    if loopGuard s then
      match receiveFromAp s with
      | (none, s') => .ok s'
      | (some m, s') =>
        match route m s' with
        | .error e => .error e
        | .ok s'' => dispatchLoop n s''
    else .ok s

/-- A run of the deferred-work callback of queue IOP (43_rtbuddy_engine.md R220). -/
def runCallback (s : State) : Except Refusal State :=
  dispatchLoop s.iop.count { s with iop := { s.iop with bhPending := false } }

/-- A run of the deferred-work callback of queue AP: it clears its pending flag (10_state.md R24). What
else the callback's owner does to the channel it does by operations of its own, which are requests of the
environment (log entry 18). -/
def runApCallback (s : State) : State := { s with ap := { s.ap with bhPending := false } }

/-- A registration of wire id `wire`, admitted before the channel's first step and once for each wire id
(43_rtbuddy_engine.md R190, R191). -/
def register (wire handler : Nat) (user : Bool) (s : State) : Except Refusal State :=
  if s.live then .error .lateRegistration
  else if (lookupEndpoint s.cfg.registry wire).isSome then .error .duplicateRegistration
  else .ok { s with cfg := { s.cfg with registry := insertEndpoint ⟨wire, handler, user⟩ s.cfg.registry } }

/-- `register_control_endpoint(id, handler)` (43_rtbuddy_engine.md R190). -/
def registerControl (id : Word) (handler : Nat) (s : State) : Except Refusal State :=
  if 1 ≤ id.toNat ∧ id.toNat < userEpBase then register id.toNat handler false s
  else .error .registrationIdOutOfRange

/-- `register_user_endpoint(id, handler)` (43_rtbuddy_engine.md R191). -/
def registerUser (id : Word) (handler : Nat) (s : State) : Except Refusal State :=
  if id.toNat + userEpBase ≤ maxWire then register (id.toNat + userEpBase) handler true s
  else .error .registrationIdOutOfRange

/-! ### Reset -/

/-- `RESET` (70_reset_and_hazards.md R270): every state element to its reset value; the configuration,
and the model's own fields, are kept. -/
def resetAll (s : State) : State :=
  { s with
    iop := .reset
    ap := .reset
    iopw := .reset
    apw := .reset
    runState := .idle
    cpuCtrl := 0
    ep0Status := .idle
    rollcallQ := [] }

/-! ### Outcomes -/

/-- An operation that the spec may refuse, as an outcome of a step. -/
def toOutcome (r : Except Refusal State) : Host.Outcome State Fault Refusal :=
  match r with
  | .ok s => .next s
  | .error e => .refused e

end Sys2Proof.Machine
end

