-- ==== Sys2Proof/Machine/CoreControl.lean ====
section
/-! DEFINITION. The A7IOP control words (30_encoding.md R78, 42_a7iop_core.md R176 to R179) and the row for a bad access size. -/

namespace Sys2Proof.Machine

/-- `REG.BAD_SIZE`: an access of another size or alignment, which the spec refuses (41_register_facade.md R156, 42_a7iop_core.md R179). -/
def execRegBadSize (_sp : Space) (_dir : Dir) (_size : Size) (_off : Nat) (_val : Nat) (_s : State) : Host.Outcome State Fault Refusal :=
  .refused .badAccess

/-- `CTL.WR.CPU_CTRL`: stores the word; with the run bit it starts or wakes the coprocessor (42_a7iop_core.md R176). -/
def execCtlWrCpuCtrl (val : Word) (s : State) : Host.Outcome State Fault Refusal :=
  .next (writeCpuCtrl val s)

/-- `CTL.RD.CPU_CTRL`: reads back the last written word (42_a7iop_core.md R177). -/
def execCtlRdCpuCtrl (s : State) : Host.Outcome State Fault Refusal :=
  .next (give (.word s.cpuCtrl) s)

/-- `CTL.RD.CPU_STATUS`: the `IDLE` bit while `run_state = idle` (42_a7iop_core.md R178). -/
def execCtlRdCpuStatus (s : State) : Host.Outcome State Fault Refusal :=
  .next (give (.word (cpuStatusWord s.cfg s.runState)) s)

/-- `CTL.WR.CPU_STATUS`: not defined, refused (42_a7iop_core.md R178). -/
def execCtlWrCpuStatus (_val : Word) (_s : State) : Host.Outcome State Fault Refusal :=
  .refused .statusWordWrite

/-- `CTL.UNDEFINED`: not defined, refused (42_a7iop_core.md R179). -/
def execCtlUndefined (_dir : Dir) (_off : Nat) (_val : Word) (_s : State) : Host.Outcome State Fault Refusal :=
  .refused .undefinedControlOffset

end Sys2Proof.Machine
end

