-- ==== Sys2Proof/Machine/Engine.lean ====
section
/-! DEFINITION. The interface of the RTBuddy engine, its events, its dispatch loop and routing (43_rtbuddy_engine.md), and RESET (70_reset_and_hazards.md R270). -/

namespace Sys2Proof.Machine

/-- `register_control_endpoint`: adds wire id `id` to the registry (43_rtbuddy_engine.md R190). -/
def execRegisterControlEndpoint (id : Word) (handler : Nat) (s : State) : Host.Outcome State Fault Refusal :=
  toOutcome (registerControl id handler s)

/-- `register_user_endpoint`: adds wire id `id + 32` to the registry (43_rtbuddy_engine.md R191). -/
def execRegisterUserEndpoint (id : Word) (handler : Nat) (s : State) : Host.Outcome State Fault Refusal :=
  toOutcome (registerUser id handler s)

/-- `send_control_message`: sends on control endpoint `id` (43_rtbuddy_engine.md R194). -/
def execSendControlMessage (id : Word) (payload : Payload) (s : State) : Host.Outcome State Fault Refusal :=
  toOutcome (sendControl id payload s)

/-- `send_user_message`: sends on user endpoint `id` (43_rtbuddy_engine.md R195). -/
def execSendUserMessage (id : Word) (payload : Payload) (s : State) : Host.Outcome State Fault Refusal :=
  toOutcome (sendUser id payload s)

/-- `START_OR_WAKEUP`: from `IDLE` sends hello and goes to `WAIT_HELLO` (43_rtbuddy_engine.md R200). -/
def execStartOrWakeup (s : State) : Host.Outcome State Fault Refusal :=
  .next (startOrWakeup s)

/-- `BUILD_ROLLCALL`: returns the rollcall payloads of the registry (43_rtbuddy_engine.md R206). -/
def execBuildRollcall (s : State) : Host.Outcome State Fault Refusal :=
  .next (give (.payloads (buildRollcall s.cfg)) s)

/-- `BH.IOP`: a run of the callback of queue IOP, enabled while it is pending (43_rtbuddy_engine.md R220). -/
def execBhIop (s : State) : Host.Outcome State Fault Refusal :=
  if s.iop.bhPending then toOutcome (runCallback s) else .refused .callbackNotPending

/-- `BH AP`: a run of the callback of queue AP, enabled while it is pending (10_state.md R24, 20_memory.md R55, R58; log entry 18). -/
def execBhAp (s : State) : Host.Outcome State Fault Refusal :=
  if s.ap.bhPending then .next (runApCallback s) else .refused .callbackNotPending

/-- `MGMT.DISPATCH`: selects the reaction by the type field (43_rtbuddy_engine.md R216). -/
def execMgmtDispatch (p : Payload) (s : State) : Host.Outcome State Fault Refusal :=
  .next (mgmt p s)

/-- `ROUTE.REGISTERED`: routes a message by its endpoint id (43_rtbuddy_engine.md R222). -/
def execRouteRegistered (m : Message) (s : State) : Host.Outcome State Fault Refusal :=
  toOutcome (route m s)

/-- `ROUTE.UNREGISTERED`: logs and drops a message of an unregistered endpoint (43_rtbuddy_engine.md R224). -/
def execRouteUnregistered (m : Message) (s : State) : Host.Outcome State Fault Refusal :=
  .next (dropUnregistered m s)

/-- `RESET`: every state element to its reset value (70_reset_and_hazards.md R270). -/
def execReset (s : State) : Host.Outcome State Fault Refusal :=
  .next (resetAll s)

end Sys2Proof.Machine
end

