-- ==== Sys2Proof/Machine/FacadeV2.lean ====
section
/-! DEFINITION. The register accesses of a V2 window (30_encoding.md R74, 41_register_facade.md), one meaning per row. -/

namespace Sys2Proof.Machine

/-- `V2.WR.MASK_SET`: `int_mask[w] <- int_mask[w] | val` (41_register_facade.md R130). -/
def execV2WrMaskSet (w : Win) (val : Word) (s : State) : Host.Outcome State Fault Refusal :=
  .next (setIntMask w val s)

/-- `V2.RD.MASK_SET`: no state element changes, the value read is free (41_register_facade.md R134). -/
def execV2RdMaskSet (_w : Win) (s : State) : Host.Outcome State Fault Refusal :=
  .next (readFree s)

/-- `V2.WR.MASK_CLR`: `int_mask[w] <- int_mask[w] & ~val` (41_register_facade.md R132). -/
def execV2WrMaskClr (w : Win) (val : Word) (s : State) : Host.Outcome State Fault Refusal :=
  .next (clrIntMask w val s)

/-- `V2.RD.MASK_CLR`: no state element changes, the value read is free (41_register_facade.md R134). -/
def execV2RdMaskClr (_w : Win) (s : State) : Host.Outcome State Fault Refusal :=
  .next (readFree s)

/-- `V2.WR.IOP_CTRL`: `en[q] <- val[0]` (41_register_facade.md R138). -/
def execV2WrIopCtrl (_w : Win) (val : Word) (s : State) : Host.Outcome State Fault Refusal :=
  .next (writeControl .iop val s)

/-- `V2.RD.IOP_CTRL`: returns `STATUS(q)` (41_register_facade.md R136). -/
def execV2RdIopCtrl (_w : Win) (s : State) : Host.Outcome State Fault Refusal :=
  .next (readControl .iop s)

/-- `V2.WR.IOP_SEND0`: stages the word, nothing else (41_register_facade.md R140). -/
def execV2WrIopSend0 (w : Win) (val : Word) (s : State) : Host.Outcome State Fault Refusal :=
  .next (stageWord w .iop 0 val s)

/-- `V2.RD.IOP_SEND0`: no state element changes, the value read is free (41_register_facade.md R150). -/
def execV2RdIopSend0 (_w : Win) (s : State) : Host.Outcome State Fault Refusal :=
  .next (readFree s)

/-- `V2.WR.IOP_SEND1`: stages the last word and commits one message (41_register_facade.md R142). -/
def execV2WrIopSend1 (w : Win) (val : Word) (s : State) : Host.Outcome State Fault Refusal :=
  .next (commitSend .v2 w .iop val s)

/-- `V2.RD.IOP_SEND1`: no state element changes, the value read is free (41_register_facade.md R150). -/
def execV2RdIopSend1 (_w : Win) (s : State) : Host.Outcome State Fault Refusal :=
  .next (readFree s)

/-- `V2.WR.IOP_RECV0`: the spec refuses the step (41_register_facade.md R152). -/
def execV2WrIopRecv0 (_w : Win) (_val : Word) (_s : State) : Host.Outcome State Fault Refusal :=
  .refused .receiveWordWrite

/-- `V2.RD.IOP_RECV0`: pops one message into the receive cache and returns word 0 (41_register_facade.md R146). -/
def execV2RdIopRecv0 (w : Win) (s : State) : Host.Outcome State Fault Refusal :=
  .next (popReceive .v2 w .iop s)

/-- `V2.WR.IOP_RECV1`: the spec refuses the step (41_register_facade.md R152). -/
def execV2WrIopRecv1 (_w : Win) (_val : Word) (_s : State) : Host.Outcome State Fault Refusal :=
  .refused .receiveWordWrite

/-- `V2.RD.IOP_RECV1`: returns the cached word (41_register_facade.md R148). -/
def execV2RdIopRecv1 (w : Win) (s : State) : Host.Outcome State Fault Refusal :=
  .next (readCached w .iop 1 s)

/-- `V2.WR.AP_CTRL`: `en[q] <- val[0]` (41_register_facade.md R138). -/
def execV2WrApCtrl (_w : Win) (val : Word) (s : State) : Host.Outcome State Fault Refusal :=
  .next (writeControl .ap val s)

/-- `V2.RD.AP_CTRL`: returns `STATUS(q)` (41_register_facade.md R136). -/
def execV2RdApCtrl (_w : Win) (s : State) : Host.Outcome State Fault Refusal :=
  .next (readControl .ap s)

/-- `V2.WR.AP_SEND0`: stages the word, nothing else (41_register_facade.md R140). -/
def execV2WrApSend0 (w : Win) (val : Word) (s : State) : Host.Outcome State Fault Refusal :=
  .next (stageWord w .ap 0 val s)

/-- `V2.RD.AP_SEND0`: no state element changes, the value read is free (41_register_facade.md R150). -/
def execV2RdApSend0 (_w : Win) (s : State) : Host.Outcome State Fault Refusal :=
  .next (readFree s)

/-- `V2.WR.AP_SEND1`: stages the last word and commits one message (41_register_facade.md R142). -/
def execV2WrApSend1 (w : Win) (val : Word) (s : State) : Host.Outcome State Fault Refusal :=
  .next (commitSend .v2 w .ap val s)

/-- `V2.RD.AP_SEND1`: no state element changes, the value read is free (41_register_facade.md R150). -/
def execV2RdApSend1 (_w : Win) (s : State) : Host.Outcome State Fault Refusal :=
  .next (readFree s)

/-- `V2.WR.AP_RECV0`: the spec refuses the step (41_register_facade.md R152). -/
def execV2WrApRecv0 (_w : Win) (_val : Word) (_s : State) : Host.Outcome State Fault Refusal :=
  .refused .receiveWordWrite

/-- `V2.RD.AP_RECV0`: pops one message into the receive cache and returns word 0 (41_register_facade.md R146). -/
def execV2RdApRecv0 (w : Win) (s : State) : Host.Outcome State Fault Refusal :=
  .next (popReceive .v2 w .ap s)

/-- `V2.WR.AP_RECV1`: the spec refuses the step (41_register_facade.md R152). -/
def execV2WrApRecv1 (_w : Win) (_val : Word) (_s : State) : Host.Outcome State Fault Refusal :=
  .refused .receiveWordWrite

/-- `V2.RD.AP_RECV1`: returns the cached word (41_register_facade.md R148). -/
def execV2RdApRecv1 (w : Win) (s : State) : Host.Outcome State Fault Refusal :=
  .next (readCached w .ap 1 s)

/-- `V2.UNDEFINED`: the spec refuses the step (41_register_facade.md R154). -/
def execV2Undefined (_w : Win) (_dir : Dir) (_off : Nat) (_val : Word) (_s : State) : Host.Outcome State Fault Refusal :=
  .refused .undefinedOffset

end Sys2Proof.Machine
end

