-- ==== Sys2Proof/Machine/FacadeV4.lean ====
section
/-! DEFINITION. The register accesses of a V4 window (30_encoding.md R75, 41_register_facade.md), one meaning per row. -/

namespace Sys2Proof.Machine

/-- `V4.WR.MASK_SET`: `int_mask[w] <- int_mask[w] | val` (41_register_facade.md R130). -/
def execV4WrMaskSet (w : Win) (val : Word) (s : State) : Host.Outcome State Fault Refusal :=
  .next (setIntMask w val s)

/-- `V4.RD.MASK_SET`: no state element changes, the value read is free (41_register_facade.md R134). -/
def execV4RdMaskSet (_w : Win) (s : State) : Host.Outcome State Fault Refusal :=
  .next (readFree s)

/-- `V4.WR.MASK_CLR`: `int_mask[w] <- int_mask[w] & ~val` (41_register_facade.md R132). -/
def execV4WrMaskClr (w : Win) (val : Word) (s : State) : Host.Outcome State Fault Refusal :=
  .next (clrIntMask w val s)

/-- `V4.RD.MASK_CLR`: no state element changes, the value read is free (41_register_facade.md R134). -/
def execV4RdMaskClr (_w : Win) (s : State) : Host.Outcome State Fault Refusal :=
  .next (readFree s)

/-- `V4.WR.IOP_CTRL`: `en[q] <- val[0]` (41_register_facade.md R138). -/
def execV4WrIopCtrl (_w : Win) (val : Word) (s : State) : Host.Outcome State Fault Refusal :=
  .next (writeControl .iop val s)

/-- `V4.RD.IOP_CTRL`: returns `STATUS(q)` (41_register_facade.md R136). -/
def execV4RdIopCtrl (_w : Win) (s : State) : Host.Outcome State Fault Refusal :=
  .next (readControl .iop s)

/-- `V4.WR.AP_CTRL`: `en[q] <- val[0]` (41_register_facade.md R138). -/
def execV4WrApCtrl (_w : Win) (val : Word) (s : State) : Host.Outcome State Fault Refusal :=
  .next (writeControl .ap val s)

/-- `V4.RD.AP_CTRL`: returns `STATUS(q)` (41_register_facade.md R136). -/
def execV4RdApCtrl (_w : Win) (s : State) : Host.Outcome State Fault Refusal :=
  .next (readControl .ap s)

/-- `V4.WR.IOP_SEND0`: stages the word, nothing else (41_register_facade.md R140). -/
def execV4WrIopSend0 (w : Win) (val : Word) (s : State) : Host.Outcome State Fault Refusal :=
  .next (stageWord w .iop 0 val s)

/-- `V4.RD.IOP_SEND0`: no state element changes, the value read is free (41_register_facade.md R150). -/
def execV4RdIopSend0 (_w : Win) (s : State) : Host.Outcome State Fault Refusal :=
  .next (readFree s)

/-- `V4.WR.IOP_SEND1`: stages the word, nothing else (41_register_facade.md R140). -/
def execV4WrIopSend1 (w : Win) (val : Word) (s : State) : Host.Outcome State Fault Refusal :=
  .next (stageWord w .iop 1 val s)

/-- `V4.RD.IOP_SEND1`: no state element changes, the value read is free (41_register_facade.md R150). -/
def execV4RdIopSend1 (_w : Win) (s : State) : Host.Outcome State Fault Refusal :=
  .next (readFree s)

/-- `V4.WR.IOP_SEND2`: stages the word, nothing else (41_register_facade.md R140). -/
def execV4WrIopSend2 (w : Win) (val : Word) (s : State) : Host.Outcome State Fault Refusal :=
  .next (stageWord w .iop 2 val s)

/-- `V4.RD.IOP_SEND2`: no state element changes, the value read is free (41_register_facade.md R150). -/
def execV4RdIopSend2 (_w : Win) (s : State) : Host.Outcome State Fault Refusal :=
  .next (readFree s)

/-- `V4.WR.IOP_SEND3`: stages the last word and commits one message (41_register_facade.md R142). -/
def execV4WrIopSend3 (w : Win) (val : Word) (s : State) : Host.Outcome State Fault Refusal :=
  .next (commitSend .v4 w .iop val s)

/-- `V4.RD.IOP_SEND3`: no state element changes, the value read is free (41_register_facade.md R150). -/
def execV4RdIopSend3 (_w : Win) (s : State) : Host.Outcome State Fault Refusal :=
  .next (readFree s)

/-- `V4.WR.IOP_RECV0`: the spec refuses the step (41_register_facade.md R152). -/
def execV4WrIopRecv0 (_w : Win) (_val : Word) (_s : State) : Host.Outcome State Fault Refusal :=
  .refused .receiveWordWrite

/-- `V4.RD.IOP_RECV0`: pops one message into the receive cache and returns word 0 (41_register_facade.md R146). -/
def execV4RdIopRecv0 (w : Win) (s : State) : Host.Outcome State Fault Refusal :=
  .next (popReceive .v4 w .iop s)

/-- `V4.WR.IOP_RECV1`: the spec refuses the step (41_register_facade.md R152). -/
def execV4WrIopRecv1 (_w : Win) (_val : Word) (_s : State) : Host.Outcome State Fault Refusal :=
  .refused .receiveWordWrite

/-- `V4.RD.IOP_RECV1`: returns the cached word (41_register_facade.md R148). -/
def execV4RdIopRecv1 (w : Win) (s : State) : Host.Outcome State Fault Refusal :=
  .next (readCached w .iop 1 s)

/-- `V4.WR.IOP_RECV2`: the spec refuses the step (41_register_facade.md R152). -/
def execV4WrIopRecv2 (_w : Win) (_val : Word) (_s : State) : Host.Outcome State Fault Refusal :=
  .refused .receiveWordWrite

/-- `V4.RD.IOP_RECV2`: returns the cached word (41_register_facade.md R148). -/
def execV4RdIopRecv2 (w : Win) (s : State) : Host.Outcome State Fault Refusal :=
  .next (readCached w .iop 2 s)

/-- `V4.WR.IOP_RECV3`: the spec refuses the step (41_register_facade.md R152). -/
def execV4WrIopRecv3 (_w : Win) (_val : Word) (_s : State) : Host.Outcome State Fault Refusal :=
  .refused .receiveWordWrite

/-- `V4.RD.IOP_RECV3`: returns the cached word (41_register_facade.md R148). -/
def execV4RdIopRecv3 (w : Win) (s : State) : Host.Outcome State Fault Refusal :=
  .next (readCached w .iop 3 s)

/-- `V4.WR.AP_SEND0`: stages the word, nothing else (41_register_facade.md R140). -/
def execV4WrApSend0 (w : Win) (val : Word) (s : State) : Host.Outcome State Fault Refusal :=
  .next (stageWord w .ap 0 val s)

/-- `V4.RD.AP_SEND0`: no state element changes, the value read is free (41_register_facade.md R150). -/
def execV4RdApSend0 (_w : Win) (s : State) : Host.Outcome State Fault Refusal :=
  .next (readFree s)

/-- `V4.WR.AP_SEND1`: stages the word, nothing else (41_register_facade.md R140). -/
def execV4WrApSend1 (w : Win) (val : Word) (s : State) : Host.Outcome State Fault Refusal :=
  .next (stageWord w .ap 1 val s)

/-- `V4.RD.AP_SEND1`: no state element changes, the value read is free (41_register_facade.md R150). -/
def execV4RdApSend1 (_w : Win) (s : State) : Host.Outcome State Fault Refusal :=
  .next (readFree s)

/-- `V4.WR.AP_SEND2`: stages the word, nothing else (41_register_facade.md R140). -/
def execV4WrApSend2 (w : Win) (val : Word) (s : State) : Host.Outcome State Fault Refusal :=
  .next (stageWord w .ap 2 val s)

/-- `V4.RD.AP_SEND2`: no state element changes, the value read is free (41_register_facade.md R150). -/
def execV4RdApSend2 (_w : Win) (s : State) : Host.Outcome State Fault Refusal :=
  .next (readFree s)

/-- `V4.WR.AP_SEND3`: stages the last word and commits one message (41_register_facade.md R142). -/
def execV4WrApSend3 (w : Win) (val : Word) (s : State) : Host.Outcome State Fault Refusal :=
  .next (commitSend .v4 w .ap val s)

/-- `V4.RD.AP_SEND3`: no state element changes, the value read is free (41_register_facade.md R150). -/
def execV4RdApSend3 (_w : Win) (s : State) : Host.Outcome State Fault Refusal :=
  .next (readFree s)

/-- `V4.WR.AP_RECV0`: the spec refuses the step (41_register_facade.md R152). -/
def execV4WrApRecv0 (_w : Win) (_val : Word) (_s : State) : Host.Outcome State Fault Refusal :=
  .refused .receiveWordWrite

/-- `V4.RD.AP_RECV0`: pops one message into the receive cache and returns word 0 (41_register_facade.md R146). -/
def execV4RdApRecv0 (w : Win) (s : State) : Host.Outcome State Fault Refusal :=
  .next (popReceive .v4 w .ap s)

/-- `V4.WR.AP_RECV1`: the spec refuses the step (41_register_facade.md R152). -/
def execV4WrApRecv1 (_w : Win) (_val : Word) (_s : State) : Host.Outcome State Fault Refusal :=
  .refused .receiveWordWrite

/-- `V4.RD.AP_RECV1`: returns the cached word (41_register_facade.md R148). -/
def execV4RdApRecv1 (w : Win) (s : State) : Host.Outcome State Fault Refusal :=
  .next (readCached w .ap 1 s)

/-- `V4.WR.AP_RECV2`: the spec refuses the step (41_register_facade.md R152). -/
def execV4WrApRecv2 (_w : Win) (_val : Word) (_s : State) : Host.Outcome State Fault Refusal :=
  .refused .receiveWordWrite

/-- `V4.RD.AP_RECV2`: returns the cached word (41_register_facade.md R148). -/
def execV4RdApRecv2 (w : Win) (s : State) : Host.Outcome State Fault Refusal :=
  .next (readCached w .ap 2 s)

/-- `V4.WR.AP_RECV3`: the spec refuses the step (41_register_facade.md R152). -/
def execV4WrApRecv3 (_w : Win) (_val : Word) (_s : State) : Host.Outcome State Fault Refusal :=
  .refused .receiveWordWrite

/-- `V4.RD.AP_RECV3`: returns the cached word (41_register_facade.md R148). -/
def execV4RdApRecv3 (w : Win) (s : State) : Host.Outcome State Fault Refusal :=
  .next (readCached w .ap 3 s)

/-- `V4.UNDEFINED`: the spec refuses the step (41_register_facade.md R154). -/
def execV4Undefined (_w : Win) (_dir : Dir) (_off : Nat) (_val : Word) (_s : State) : Host.Outcome State Fault Refusal :=
  .refused .undefinedOffset

end Sys2Proof.Machine
end

