-- ==== Sys2Proof/Machine/Management.lean ====
section
/-! DEFINITION. Management payloads, inbound and outbound, on the management endpoint (30_encoding.md R80 to R86, 43_rtbuddy_engine.md R200 to R216). -/

namespace Sys2Proof.Machine

/-- `MGMT.IN.reserved0`: dropped with a diagnostic (43_rtbuddy_engine.md R214). -/
def execMgmtInReserved0 (p : Payload) (s : State) : Host.Outcome State Fault Refusal :=
  .next (inDropped p s)

/-- `MGMT.IN.hello`: dropped with a diagnostic (43_rtbuddy_engine.md R214). -/
def execMgmtInHello (p : Payload) (s : State) : Host.Outcome State Fault Refusal :=
  .next (inDropped p s)

/-- `MGMT.IN.hello-ack`: in `WAIT_HELLO` builds the rollcall list, sends its head and goes to `WAIT_ROLLCALL` (43_rtbuddy_engine.md R204). -/
def execMgmtInHelloAck (p : Payload) (s : State) : Host.Outcome State Fault Refusal :=
  .next (inHelloAck p s)

/-- `MGMT.IN.ping`: answered with a ping-ack in every state (43_rtbuddy_engine.md R212). -/
def execMgmtInPing (p : Payload) (s : State) : Host.Outcome State Fault Refusal :=
  .next (inPing p s)

/-- `MGMT.IN.ping-ack`: dropped with a diagnostic (43_rtbuddy_engine.md R214). -/
def execMgmtInPingAck (p : Payload) (s : State) : Host.Outcome State Fault Refusal :=
  .next (inDropped p s)

/-- `MGMT.IN.endpoint-start`: dropped with a diagnostic (43_rtbuddy_engine.md R214). -/
def execMgmtInEndpointStart (p : Payload) (s : State) : Host.Outcome State Fault Refusal :=
  .next (inDropped p s)

/-- `MGMT.IN.set-iop-power-state`: dropped with a diagnostic (43_rtbuddy_engine.md R214). -/
def execMgmtInSetIopPowerState (p : Payload) (s : State) : Host.Outcome State Fault Refusal :=
  .next (inDropped p s)

/-- `MGMT.IN.power-state-ack`: dropped with a diagnostic (43_rtbuddy_engine.md R214). -/
def execMgmtInPowerStateAck (p : Payload) (s : State) : Host.Outcome State Fault Refusal :=
  .next (inDropped p s)

/-- `MGMT.IN.rollcall`: in `WAIT_ROLLCALL` sends the next list element, or the power-state acknowledgment and goes to `IDLE` (43_rtbuddy_engine.md R210). -/
def execMgmtInRollcall (p : Payload) (s : State) : Host.Outcome State Fault Refusal :=
  .next (inRollcall p s)

/-- `MGMT.IN.reserved9`: dropped with a diagnostic (43_rtbuddy_engine.md R214). -/
def execMgmtInReserved9 (p : Payload) (s : State) : Host.Outcome State Fault Refusal :=
  .next (inDropped p s)

/-- `MGMT.IN.reserved10`: dropped with a diagnostic (43_rtbuddy_engine.md R214). -/
def execMgmtInReserved10 (p : Payload) (s : State) : Host.Outcome State Fault Refusal :=
  .next (inDropped p s)

/-- `MGMT.IN.set-ap-power-state`: dropped with a diagnostic (43_rtbuddy_engine.md R214). -/
def execMgmtInSetApPowerState (p : Payload) (s : State) : Host.Outcome State Fault Refusal :=
  .next (inDropped p s)

/-- `MGMT.IN.reserved12`: dropped with a diagnostic (43_rtbuddy_engine.md R214). -/
def execMgmtInReserved12 (p : Payload) (s : State) : Host.Outcome State Fault Refusal :=
  .next (inDropped p s)

/-- `MGMT.IN.reserved13`: dropped with a diagnostic (43_rtbuddy_engine.md R214). -/
def execMgmtInReserved13 (p : Payload) (s : State) : Host.Outcome State Fault Refusal :=
  .next (inDropped p s)

/-- `MGMT.IN.reserved14`: dropped with a diagnostic (43_rtbuddy_engine.md R214). -/
def execMgmtInReserved14 (p : Payload) (s : State) : Host.Outcome State Fault Refusal :=
  .next (inDropped p s)

/-- `MGMT.IN.reserved15`: dropped with a diagnostic (43_rtbuddy_engine.md R214). -/
def execMgmtInReserved15 (p : Payload) (s : State) : Host.Outcome State Fault Refusal :=
  .next (inDropped p s)

/-- `MGMT.OUT.hello`: the engine sends hello with both version fields `PROTOCOL_VERSION` (30_encoding.md R82, 43_rtbuddy_engine.md R200). -/
def execMgmtOutHello (s : State) : Host.Outcome State Fault Refusal :=
  .next (sendMgmt (helloPayload s.cfg) s)

/-- `MGMT.OUT.ping-ack`: the engine sends the payload with its type field replaced by 4 (30_encoding.md R83, 43_rtbuddy_engine.md R212). -/
def execMgmtOutPingAck (p : Payload) (s : State) : Host.Outcome State Fault Refusal :=
  .next (sendMgmt (pingAckPayload s.cfg p) s)

/-- `MGMT.OUT.rollcall`: the engine sends a rollcall payload (30_encoding.md R84, 43_rtbuddy_engine.md R206). -/
def execMgmtOutRollcall (mask : Word) (block : BitVec 6) (ended : Bool) (s : State) : Host.Outcome State Fault Refusal :=
  .next (sendMgmt (rollcallPayload s.cfg mask block ended) s)

/-- `MGMT.OUT.power-state-ack`: the engine sends the acknowledgment with value `PWR_STATE_ON` (30_encoding.md R85, 43_rtbuddy_engine.md R210). -/
def execMgmtOutPowerStateAck (s : State) : Host.Outcome State Fault Refusal :=
  .next (sendMgmt (powerStateAckPayload s.cfg) s)

end Sys2Proof.Machine
end

