-- ==== Sys2Proof/Machine/Transport.lean ====
section
/-! DEFINITION. The transport operations (40_mailbox_ops.md) and the four primitives of the A7IOP core (42_a7iop_core.md R170 to R173). -/

namespace Sys2Proof.Machine

/-- `MB.SEND`: appends the message to queue `q`, or drops it when the direction is disabled (40_mailbox_ops.md R100). -/
def execMbSend (q : QId) (m : Message) (s : State) : Host.Outcome State Fault Refusal :=
  .next (mbSend q m s)

/-- `MB.RECV`: removes and returns the oldest message of queue `q`, or `empty` (40_mailbox_ops.md R102). -/
def execMbRecv (q : QId) (s : State) : Host.Outcome State Fault Refusal :=
  .next (giveMessage (mbRecv q s))

/-- `MB.SET_INT_MASK`: masks interrupt lines of window `w` (40_mailbox_ops.md R104). -/
def execMbSetIntMask (w : Win) (bits : Word) (s : State) : Host.Outcome State Fault Refusal :=
  .next (setIntMask w bits s)

/-- `MB.CLR_INT_MASK`: unmasks interrupt lines of window `w` (40_mailbox_ops.md R105). -/
def execMbClrIntMask (w : Win) (bits : Word) (s : State) : Host.Outcome State Fault Refusal :=
  .next (clrIntMask w bits s)

/-- `MB.SET_DIR_EN`: enables or disables queue `q` (40_mailbox_ops.md R106). -/
def execMbSetDirEn (q : QId) (b : Bool) (s : State) : Host.Outcome State Fault Refusal :=
  .next (setDirEn q b s)

/-- `STATUS`: returns the status word of queue `q` (40_mailbox_ops.md R108). -/
def execStatus (q : QId) (s : State) : Host.Outcome State Fault Refusal :=
  .next (give (.word (statusWord s.cfg (s.queue q))) s)

/-- `send-to-AP`: `MB.SEND(AP, m)` (42_a7iop_core.md R170). -/
def execSendToAp (m : Message) (s : State) : Host.Outcome State Fault Refusal :=
  .next (sendToAp m s)

/-- `receive-from-AP`: `MB.RECV(IOP)` (42_a7iop_core.md R171). -/
def execReceiveFromAp (s : State) : Host.Outcome State Fault Refusal :=
  .next (giveMessage (receiveFromAp s))

/-- `send-to-IOP`: `MB.SEND(IOP, m)` (42_a7iop_core.md R172). -/
def execSendToIop (m : Message) (s : State) : Host.Outcome State Fault Refusal :=
  .next (sendToIop m s)

/-- `receive-from-IOP`: `MB.RECV(AP)` (42_a7iop_core.md R173). -/
def execReceiveFromIop (s : State) : Host.Outcome State Fault Refusal :=
  .next (giveMessage (receiveFromIop s))

end Sys2Proof.Machine
end

