-- ==== Sys2Proof/Machine/Dispatch.lean ====
section
/-! DEFINITION. One arm per row of spec/opcode_table.json, in the table's order; the row `BH.IOP` has a second
arm for the other queue of the step `BH q` (30_encoding.md R90; log entry 18). -/

namespace Sys2Proof.Machine

def exec (i : Instr) (s : State) : Host.Outcome State Fault Refusal :=
  match i with
  | .v2WrMaskSet w val => Sys2Proof.Machine.execV2WrMaskSet w val s
  | .v2RdMaskSet w => Sys2Proof.Machine.execV2RdMaskSet w s
  | .v2WrMaskClr w val => Sys2Proof.Machine.execV2WrMaskClr w val s
  | .v2RdMaskClr w => Sys2Proof.Machine.execV2RdMaskClr w s
  | .v2WrIopCtrl w val => Sys2Proof.Machine.execV2WrIopCtrl w val s
  | .v2RdIopCtrl w => Sys2Proof.Machine.execV2RdIopCtrl w s
  | .v2WrIopSend0 w val => Sys2Proof.Machine.execV2WrIopSend0 w val s
  | .v2RdIopSend0 w => Sys2Proof.Machine.execV2RdIopSend0 w s
  | .v2WrIopSend1 w val => Sys2Proof.Machine.execV2WrIopSend1 w val s
  | .v2RdIopSend1 w => Sys2Proof.Machine.execV2RdIopSend1 w s
  | .v2WrIopRecv0 w val => Sys2Proof.Machine.execV2WrIopRecv0 w val s
  | .v2RdIopRecv0 w => Sys2Proof.Machine.execV2RdIopRecv0 w s
  | .v2WrIopRecv1 w val => Sys2Proof.Machine.execV2WrIopRecv1 w val s
  | .v2RdIopRecv1 w => Sys2Proof.Machine.execV2RdIopRecv1 w s
  | .v2WrApCtrl w val => Sys2Proof.Machine.execV2WrApCtrl w val s
  | .v2RdApCtrl w => Sys2Proof.Machine.execV2RdApCtrl w s
  | .v2WrApSend0 w val => Sys2Proof.Machine.execV2WrApSend0 w val s
  | .v2RdApSend0 w => Sys2Proof.Machine.execV2RdApSend0 w s
  | .v2WrApSend1 w val => Sys2Proof.Machine.execV2WrApSend1 w val s
  | .v2RdApSend1 w => Sys2Proof.Machine.execV2RdApSend1 w s
  | .v2WrApRecv0 w val => Sys2Proof.Machine.execV2WrApRecv0 w val s
  | .v2RdApRecv0 w => Sys2Proof.Machine.execV2RdApRecv0 w s
  | .v2WrApRecv1 w val => Sys2Proof.Machine.execV2WrApRecv1 w val s
  | .v2RdApRecv1 w => Sys2Proof.Machine.execV2RdApRecv1 w s
  | .v2Undefined w dir off val => Sys2Proof.Machine.execV2Undefined w dir off val s
  | .v4WrMaskSet w val => Sys2Proof.Machine.execV4WrMaskSet w val s
  | .v4RdMaskSet w => Sys2Proof.Machine.execV4RdMaskSet w s
  | .v4WrMaskClr w val => Sys2Proof.Machine.execV4WrMaskClr w val s
  | .v4RdMaskClr w => Sys2Proof.Machine.execV4RdMaskClr w s
  | .v4WrIopCtrl w val => Sys2Proof.Machine.execV4WrIopCtrl w val s
  | .v4RdIopCtrl w => Sys2Proof.Machine.execV4RdIopCtrl w s
  | .v4WrApCtrl w val => Sys2Proof.Machine.execV4WrApCtrl w val s
  | .v4RdApCtrl w => Sys2Proof.Machine.execV4RdApCtrl w s
  | .v4WrIopSend0 w val => Sys2Proof.Machine.execV4WrIopSend0 w val s
  | .v4RdIopSend0 w => Sys2Proof.Machine.execV4RdIopSend0 w s
  | .v4WrIopSend1 w val => Sys2Proof.Machine.execV4WrIopSend1 w val s
  | .v4RdIopSend1 w => Sys2Proof.Machine.execV4RdIopSend1 w s
  | .v4WrIopSend2 w val => Sys2Proof.Machine.execV4WrIopSend2 w val s
  | .v4RdIopSend2 w => Sys2Proof.Machine.execV4RdIopSend2 w s
  | .v4WrIopSend3 w val => Sys2Proof.Machine.execV4WrIopSend3 w val s
  | .v4RdIopSend3 w => Sys2Proof.Machine.execV4RdIopSend3 w s
  | .v4WrIopRecv0 w val => Sys2Proof.Machine.execV4WrIopRecv0 w val s
  | .v4RdIopRecv0 w => Sys2Proof.Machine.execV4RdIopRecv0 w s
  | .v4WrIopRecv1 w val => Sys2Proof.Machine.execV4WrIopRecv1 w val s
  | .v4RdIopRecv1 w => Sys2Proof.Machine.execV4RdIopRecv1 w s
  | .v4WrIopRecv2 w val => Sys2Proof.Machine.execV4WrIopRecv2 w val s
  | .v4RdIopRecv2 w => Sys2Proof.Machine.execV4RdIopRecv2 w s
  | .v4WrIopRecv3 w val => Sys2Proof.Machine.execV4WrIopRecv3 w val s
  | .v4RdIopRecv3 w => Sys2Proof.Machine.execV4RdIopRecv3 w s
  | .v4WrApSend0 w val => Sys2Proof.Machine.execV4WrApSend0 w val s
  | .v4RdApSend0 w => Sys2Proof.Machine.execV4RdApSend0 w s
  | .v4WrApSend1 w val => Sys2Proof.Machine.execV4WrApSend1 w val s
  | .v4RdApSend1 w => Sys2Proof.Machine.execV4RdApSend1 w s
  | .v4WrApSend2 w val => Sys2Proof.Machine.execV4WrApSend2 w val s
  | .v4RdApSend2 w => Sys2Proof.Machine.execV4RdApSend2 w s
  | .v4WrApSend3 w val => Sys2Proof.Machine.execV4WrApSend3 w val s
  | .v4RdApSend3 w => Sys2Proof.Machine.execV4RdApSend3 w s
  | .v4WrApRecv0 w val => Sys2Proof.Machine.execV4WrApRecv0 w val s
  | .v4RdApRecv0 w => Sys2Proof.Machine.execV4RdApRecv0 w s
  | .v4WrApRecv1 w val => Sys2Proof.Machine.execV4WrApRecv1 w val s
  | .v4RdApRecv1 w => Sys2Proof.Machine.execV4RdApRecv1 w s
  | .v4WrApRecv2 w val => Sys2Proof.Machine.execV4WrApRecv2 w val s
  | .v4RdApRecv2 w => Sys2Proof.Machine.execV4RdApRecv2 w s
  | .v4WrApRecv3 w val => Sys2Proof.Machine.execV4WrApRecv3 w val s
  | .v4RdApRecv3 w => Sys2Proof.Machine.execV4RdApRecv3 w s
  | .v4Undefined w dir off val => Sys2Proof.Machine.execV4Undefined w dir off val s
  | .regBadSize sp dir size off val => Sys2Proof.Machine.execRegBadSize sp dir size off val s
  | .ctlWrCpuCtrl val => Sys2Proof.Machine.execCtlWrCpuCtrl val s
  | .ctlRdCpuCtrl => Sys2Proof.Machine.execCtlRdCpuCtrl s
  | .ctlRdCpuStatus => Sys2Proof.Machine.execCtlRdCpuStatus s
  | .ctlWrCpuStatus val => Sys2Proof.Machine.execCtlWrCpuStatus val s
  | .ctlUndefined dir off val => Sys2Proof.Machine.execCtlUndefined dir off val s
  | .mgmtInReserved0 p => Sys2Proof.Machine.execMgmtInReserved0 p s
  | .mgmtInHello p => Sys2Proof.Machine.execMgmtInHello p s
  | .mgmtInHelloAck p => Sys2Proof.Machine.execMgmtInHelloAck p s
  | .mgmtInPing p => Sys2Proof.Machine.execMgmtInPing p s
  | .mgmtInPingAck p => Sys2Proof.Machine.execMgmtInPingAck p s
  | .mgmtInEndpointStart p => Sys2Proof.Machine.execMgmtInEndpointStart p s
  | .mgmtInSetIopPowerState p => Sys2Proof.Machine.execMgmtInSetIopPowerState p s
  | .mgmtInPowerStateAck p => Sys2Proof.Machine.execMgmtInPowerStateAck p s
  | .mgmtInRollcall p => Sys2Proof.Machine.execMgmtInRollcall p s
  | .mgmtInReserved9 p => Sys2Proof.Machine.execMgmtInReserved9 p s
  | .mgmtInReserved10 p => Sys2Proof.Machine.execMgmtInReserved10 p s
  | .mgmtInSetApPowerState p => Sys2Proof.Machine.execMgmtInSetApPowerState p s
  | .mgmtInReserved12 p => Sys2Proof.Machine.execMgmtInReserved12 p s
  | .mgmtInReserved13 p => Sys2Proof.Machine.execMgmtInReserved13 p s
  | .mgmtInReserved14 p => Sys2Proof.Machine.execMgmtInReserved14 p s
  | .mgmtInReserved15 p => Sys2Proof.Machine.execMgmtInReserved15 p s
  | .mgmtOutHello => Sys2Proof.Machine.execMgmtOutHello s
  | .mgmtOutPingAck p => Sys2Proof.Machine.execMgmtOutPingAck p s
  | .mgmtOutRollcall mask block ended => Sys2Proof.Machine.execMgmtOutRollcall mask block ended s
  | .mgmtOutPowerStateAck => Sys2Proof.Machine.execMgmtOutPowerStateAck s
  | .mbSend q m => Sys2Proof.Machine.execMbSend q m s
  | .mbRecv q => Sys2Proof.Machine.execMbRecv q s
  | .mbSetIntMask w bits => Sys2Proof.Machine.execMbSetIntMask w bits s
  | .mbClrIntMask w bits => Sys2Proof.Machine.execMbClrIntMask w bits s
  | .mbSetDirEn q b => Sys2Proof.Machine.execMbSetDirEn q b s
  | .status q => Sys2Proof.Machine.execStatus q s
  | .sendToAp m => Sys2Proof.Machine.execSendToAp m s
  | .receiveFromAp => Sys2Proof.Machine.execReceiveFromAp s
  | .sendToIop m => Sys2Proof.Machine.execSendToIop m s
  | .receiveFromIop => Sys2Proof.Machine.execReceiveFromIop s
  | .registerControlEndpoint id handler => Sys2Proof.Machine.execRegisterControlEndpoint id handler s
  | .registerUserEndpoint id handler => Sys2Proof.Machine.execRegisterUserEndpoint id handler s
  | .sendControlMessage id payload => Sys2Proof.Machine.execSendControlMessage id payload s
  | .sendUserMessage id payload => Sys2Proof.Machine.execSendUserMessage id payload s
  | .startOrWakeup => Sys2Proof.Machine.execStartOrWakeup s
  | .buildRollcall => Sys2Proof.Machine.execBuildRollcall s
  | .bhIop => Sys2Proof.Machine.execBhIop s
  | .bhAp => Sys2Proof.Machine.execBhAp s
  | .mgmtDispatch p => Sys2Proof.Machine.execMgmtDispatch p s
  | .routeRegistered m => Sys2Proof.Machine.execRouteRegistered m s
  | .routeUnregistered m => Sys2Proof.Machine.execRouteUnregistered m s
  | .reset => Sys2Proof.Machine.execReset s

end Sys2Proof.Machine
end

