-- ==== Sys2Proof/Machine/Fetch.lean ====
section
/-! DEFINITION. Which agent takes the next step, the fetch of its request, and what a step does around
`exec` (00_scope.md R8, 20_memory.md R55, R58; log entries 1, 3, 10, 11). -/

namespace Sys2Proof.Machine

/-- What the next step is. -/
inductive Fetched
  /-- A request of the environment, decoded. -/
  | request (i : Instr) (rest : List Request)
  /-- A request that is no operation of the channel. -/
  | bad (e : DecodeError)
  /-- No request is left and the callback of queue `q` is pending: its agent takes the step (R58). -/
  | callback (q : QId)
  /-- No agent has a step enabled. -/
  | idle
deriving DecidableEq, Repr

/-- The next step of a state: its first request; without one, a pending callback, that of queue IOP
first; else none. -/
def fetch (s : State) : Fetched :=
  match s.inputs with
  | r :: rest =>
    match decode s.cfg r with
    | .ok i => .request i rest
    | .error e => .bad e
  | [] =>
    if s.iop.bhPending then .callback .iop
    else if s.ap.bhPending then .callback .ap
    else .idle

/-- `BH q` (30_encoding.md R90). -/
def callbackRun (q : QId) : Instr :=
  match q with
  | .iop => .bhIop
  | .ap => .bhAp

/-- The state in which a step's operation starts: no value returned yet, the remaining requests. -/
def begin (rest : List Request) (s : State) : State := { s with inputs := rest, result := .none }

/-- A registration is no step of the channel (43_rtbuddy_engine.md R190, R191). -/
def isRegistration (i : Instr) : Bool :=
  match i with
  | .registerControlEndpoint _ _ => true
  | .registerUserEndpoint _ _ => true
  | _ => false

/-- After a step other than a registration the channel has taken its first step (log entry 11). -/
def retire (i : Instr) (s : State) : State := { s with live := s.live || !(isRegistration i) }

/-- An operation as a whole step. -/
def runStep (i : Instr) (rest : List Request) (s : State) : Host.Outcome State Fault Refusal :=
  match exec i (begin rest s) with
  | .next t => .next (retire i t)
  | .fault r => .fault r
  | .refused r => .refused r

/-- The state with a request put before all others. -/
def pushRequest (r : Option Request) (s : State) : State :=
  { s with inputs := r.toList ++ s.inputs }

end Sys2Proof.Machine
end

