-- ==== Sys2Proof/Machine/Step.lean ====
section
/-! DEFINITION. One step of the channel (00_scope.md R8), and the placing of a word where the next step
fetches it. -/

namespace Sys2Proof.Machine

/-- One step: the operation of the next request, or of a pending callback when no request is left, or
nothing when no agent has a step enabled. -/
def step (s : State) : Host.Outcome State Fault Refusal :=
  match fetch s with
  | .request i rest => runStep i rest s
  | .bad e => .refused (.undecodable e)
  | .callback q => runStep (callbackRun q) [] s
  | .idle => .next s

/-- The state with a bare word of the opcode table as its next request, in the generation that fixes the
word (log entry 14). -/
def State.withFetchWord (s : State) (nbits w : Nat) : State :=
  pushRequest (tableRequest nbits w) { s with cfg := tableConfig s.cfg nbits w }

end Sys2Proof.Machine
end

