-- ==== Sys2Proof/Safety.lean ====
section
/-! DEFINITION. What counts as a consistent state and a safe run, in the terms the claims use. -/

namespace Sys2Proof.Machine

/-- `count[q] = length(inbox[q])` (10_state.md R15, R27 (a)). -/
abbrev QueueConsistent (q : QueueState) : Prop := q.count = q.inbox.length

/-- The invariant of the channel: both counts are the lengths of their queues (10_state.md R27 (a)), the
rollcall list is empty outside `WAIT_ROLLCALL` (R27 (c)), a callback is pending only where one is
registered (R24), and the registry is a finite map of admitted
ids in ascending wire id (43_rtbuddy_engine.md R190 to R192). -/
abbrev Inv (s : State) : Prop :=
  QueueConsistent s.iop ∧ QueueConsistent s.ap
  ∧ (s.ep0Status ≠ .waitRollcall → s.rollcallQ = [])
  ∧ (s.iop.bhPending = true → s.cfg.bhRegisteredIop = true)
  ∧ (s.ap.bhPending = true → s.cfg.bhRegisteredAp = true)
  ∧ Config.RegistryWf s.cfg.registry

/-- A slot that uses only the two words of a V2 window. -/
abbrev Slot.TwoWords (x : Slot) : Prop := x.w2 = 0 ∧ x.w3 = 0

/-- All staging registers and receive caches of a window use only two words. -/
abbrev WindowState.TwoWords (x : WindowState) : Prop :=
  x.stageIop.TwoWords ∧ x.stageAp.TwoWords ∧ x.cacheIop.TwoWords ∧ x.cacheAp.TwoWords

/-- In a V2 channel a slot has two words (10_state.md R11, R12 with `NWORDS = 2`; log entry 17). -/
abbrev V2Narrow (s : State) : Prop := s.cfg.gen = .v2 → s.iopw.TwoWords ∧ s.apw.TwoWords

/-- A reply the interface admits (43_rtbuddy_engine.md R194, R195). -/
abbrev ReplyAdmitted (r : Reply) : Prop :=
  match r with
  | .control id _ => id.toNat < 32
  | .user id _ => id.toNat ≤ 2015

/-- Every reply that the environment has chosen is admitted. -/
abbrev RepliesAdmitted (s : State) : Prop := ∀ rs ∈ s.replies, ∀ r ∈ rs, ReplyAdmitted r

/-- A step that has a successor state. -/
abbrev Completes (o : Host.Outcome State Fault Refusal) : Prop := ∃ t, o = .next t

/-- The steps of a run from `s` all have a successor: the safe runs. -/
def SafeFor : Nat → State → Prop
  | 0, _ => True
  | n + 1, s => ∃ t, step s = .next t ∧ SafeFor n t

/-! ### Classes of operations -/

/-- The operations that receive from queue `q`. -/
def receivesFrom (i : Instr) (q : QId) : Bool :=
  match i, q with
  | .v2RdIopRecv0 _, .iop => true
  | .v4RdIopRecv0 _, .iop => true
  | .receiveFromAp, .iop => true
  | .bhIop, .iop => true
  | .v2RdApRecv0 _, .ap => true
  | .v4RdApRecv0 _, .ap => true
  | .receiveFromIop, .ap => true
  | .mbRecv p, q => p == q
  | _, _ => false

/-- The operations that can take a transition of `ep0_status` (43_rtbuddy_engine.md R228). -/
def mayChangeEp0 (i : Instr) : Bool :=
  match i with
  | .ctlWrCpuCtrl _ => true
  | .startOrWakeup => true
  | .mgmtInHelloAck _ => true
  | .mgmtInRollcall _ => true
  | .mgmtDispatch _ => true
  | .routeRegistered _ => true
  | .bhIop => true
  | .reset => true
  | _ => false

/-- The spec admits the operation in this state: every operation except what 93_implementation_defined.md
refuses (U1, U2, U5, U6; ids out of range, U7, U8; late and duplicate registrations, U8) and the run of a
callback that is not pending (20_memory.md R58). -/
def accepted (s : State) (i : Instr) : Bool :=
  match i with
  | .v2WrIopRecv0 _ _ | .v2WrIopRecv1 _ _ | .v2WrApRecv0 _ _ | .v2WrApRecv1 _ _ => false
  | .v4WrIopRecv0 _ _ | .v4WrIopRecv1 _ _ | .v4WrIopRecv2 _ _ | .v4WrIopRecv3 _ _ => false
  | .v4WrApRecv0 _ _ | .v4WrApRecv1 _ _ | .v4WrApRecv2 _ _ | .v4WrApRecv3 _ _ => false
  | .v2Undefined _ _ _ _ | .v4Undefined _ _ _ _ | .regBadSize _ _ _ _ _ => false
  | .ctlWrCpuStatus _ | .ctlUndefined _ _ _ => false
  | .registerControlEndpoint id _ =>
    1 ≤ id.toNat && id.toNat ≤ 31 && !s.live && (lookupEndpoint s.cfg.registry id.toNat).isNone
  | .registerUserEndpoint id _ =>
    id.toNat ≤ 2015 && !s.live && (lookupEndpoint s.cfg.registry (id.toNat + 32)).isNone
  | .sendControlMessage id _ => id.toNat ≤ 31
  | .sendUserMessage id _ => id.toNat ≤ 2015
  | .bhIop => s.iop.bhPending
  | .bhAp => s.ap.bhPending
  | _ => true

/-- The window through which an operation acts, if any. -/
def actsThrough (i : Instr) : Option Win :=
  match i with
  | .v2WrMaskSet w _ => some w
  | .v2RdMaskSet w => some w
  | .v2WrMaskClr w _ => some w
  | .v2RdMaskClr w => some w
  | .v2WrIopCtrl w _ => some w
  | .v2RdIopCtrl w => some w
  | .v2WrIopSend0 w _ => some w
  | .v2RdIopSend0 w => some w
  | .v2WrIopSend1 w _ => some w
  | .v2RdIopSend1 w => some w
  | .v2WrIopRecv0 w _ => some w
  | .v2RdIopRecv0 w => some w
  | .v2WrIopRecv1 w _ => some w
  | .v2RdIopRecv1 w => some w
  | .v2WrApCtrl w _ => some w
  | .v2RdApCtrl w => some w
  | .v2WrApSend0 w _ => some w
  | .v2RdApSend0 w => some w
  | .v2WrApSend1 w _ => some w
  | .v2RdApSend1 w => some w
  | .v2WrApRecv0 w _ => some w
  | .v2RdApRecv0 w => some w
  | .v2WrApRecv1 w _ => some w
  | .v2RdApRecv1 w => some w
  | .v2Undefined w _ _ _ => some w
  | .v4WrMaskSet w _ => some w
  | .v4RdMaskSet w => some w
  | .v4WrMaskClr w _ => some w
  | .v4RdMaskClr w => some w
  | .v4WrIopCtrl w _ => some w
  | .v4RdIopCtrl w => some w
  | .v4WrApCtrl w _ => some w
  | .v4RdApCtrl w => some w
  | .v4WrIopSend0 w _ => some w
  | .v4RdIopSend0 w => some w
  | .v4WrIopSend1 w _ => some w
  | .v4RdIopSend1 w => some w
  | .v4WrIopSend2 w _ => some w
  | .v4RdIopSend2 w => some w
  | .v4WrIopSend3 w _ => some w
  | .v4RdIopSend3 w => some w
  | .v4WrIopRecv0 w _ => some w
  | .v4RdIopRecv0 w => some w
  | .v4WrIopRecv1 w _ => some w
  | .v4RdIopRecv1 w => some w
  | .v4WrIopRecv2 w _ => some w
  | .v4RdIopRecv2 w => some w
  | .v4WrIopRecv3 w _ => some w
  | .v4RdIopRecv3 w => some w
  | .v4WrApSend0 w _ => some w
  | .v4RdApSend0 w => some w
  | .v4WrApSend1 w _ => some w
  | .v4RdApSend1 w => some w
  | .v4WrApSend2 w _ => some w
  | .v4RdApSend2 w => some w
  | .v4WrApSend3 w _ => some w
  | .v4RdApSend3 w => some w
  | .v4WrApRecv0 w _ => some w
  | .v4RdApRecv0 w => some w
  | .v4WrApRecv1 w _ => some w
  | .v4RdApRecv1 w => some w
  | .v4WrApRecv2 w _ => some w
  | .v4RdApRecv2 w => some w
  | .v4WrApRecv3 w _ => some w
  | .v4RdApRecv3 w => some w
  | .v4Undefined w _ _ _ => some w
  | .mbSetIntMask w _ => some w
  | .mbClrIntMask w _ => some w
  | _ => none

end Sys2Proof.Machine
end

