-- ==== Sys2Proof/Certificates/Slice0/Obligations.lean ====
section
/-! DEFINITION. The statements for the provers, each with the rule of spec/ that it formalises. A statement
names the fields that change and equates the rest with the state before, so that it is its own frame. -/

namespace Sys2Proof.Claims

open Sys2Proof.Machine

/-! ### Groups of operations of one shape -/

/-- Reads whose value the spec leaves unconstrained (41_register_facade.md R134, R150). -/
def freeReads (w : Win) : List Instr :=
  [.v2RdMaskSet w, .v2RdMaskClr w, .v2RdIopSend0 w, .v2RdIopSend1 w, .v2RdApSend0 w, .v2RdApSend1 w,
   .v4RdMaskSet w, .v4RdMaskClr w, .v4RdIopSend0 w, .v4RdIopSend1 w, .v4RdIopSend2 w, .v4RdIopSend3 w,
   .v4RdApSend0 w, .v4RdApSend1 w, .v4RdApSend2 w, .v4RdApSend3 w]

/-- Writes of receive words (41_register_facade.md R152). -/
def receiveWordWrites (w : Win) (val : Word) : List Instr :=
  [.v2WrIopRecv0 w val, .v2WrIopRecv1 w val, .v2WrApRecv0 w val, .v2WrApRecv1 w val,
   .v4WrIopRecv0 w val, .v4WrIopRecv1 w val, .v4WrIopRecv2 w val, .v4WrIopRecv3 w val,
   .v4WrApRecv0 w val, .v4WrApRecv1 w val, .v4WrApRecv2 w val, .v4WrApRecv3 w val]

/-- Reads of the control register of queue `q` (41_register_facade.md R136) and the internal `STATUS`. -/
def controlReads (w : Win) (q : QId) : List Instr :=
  match q with
  | .iop => [.v2RdIopCtrl w, .v4RdIopCtrl w, .status .iop]
  | .ap => [.v2RdApCtrl w, .v4RdApCtrl w, .status .ap]

/-- Writes of the control register of queue `q` (41_register_facade.md R138). -/
def controlWrites (w : Win) (q : QId) (val : Word) : List Instr :=
  match q with
  | .iop => [.v2WrIopCtrl w val, .v4WrIopCtrl w val]
  | .ap => [.v2WrApCtrl w val, .v4WrApCtrl w val]

/-- The read of receive word 0 of queue `q` (41_register_facade.md R146). -/
def popRead (g : Gen) (w : Win) (q : QId) : Instr :=
  match g, q with
  | .v2, .iop => .v2RdIopRecv0 w
  | .v2, .ap => .v2RdApRecv0 w
  | .v4, .iop => .v4RdIopRecv0 w
  | .v4, .ap => .v4RdApRecv0 w

/-- The reads of the trailing receive words with the cached word each returns
(41_register_facade.md R148). -/
def trailingReads (w : Win) (q : QId) (x : Slot) : List (Instr × Word) :=
  match q with
  | .iop => [(.v2RdIopRecv1 w, x.w1), (.v4RdIopRecv1 w, x.w1), (.v4RdIopRecv2 w, x.w2), (.v4RdIopRecv3 w, x.w3)]
  | .ap => [(.v2RdApRecv1 w, x.w1), (.v4RdApRecv1 w, x.w1), (.v4RdApRecv2 w, x.w2), (.v4RdApRecv3 w, x.w3)]

/-- The write of the last send word of queue `q` (41_register_facade.md R142). -/
def commitWrite (g : Gen) (w : Win) (q : QId) (val : Word) : Instr :=
  match g, q with
  | .v2, .iop => .v2WrIopSend1 w val
  | .v2, .ap => .v2WrApSend1 w val
  | .v4, .iop => .v4WrIopSend3 w val
  | .v4, .ap => .v4WrApSend3 w val

/-- The inbound management rows that the engine drops (43_rtbuddy_engine.md R214). -/
def droppedTypes (p : Payload) : List Instr :=
  [.mgmtInReserved0 p, .mgmtInHello p, .mgmtInPingAck p, .mgmtInEndpointStart p,
   .mgmtInSetIopPowerState p, .mgmtInPowerStateAck p, .mgmtInReserved9 p, .mgmtInReserved10 p,
   .mgmtInSetApPowerState p, .mgmtInReserved12 p, .mgmtInReserved13 p, .mgmtInReserved14 p,
   .mgmtInReserved15 p]

/-! ### Reference descriptions -/

/-- The state after a message has been pushed onto queue `q` (40_mailbox_ops.md R100). -/
def pushed (q : QId) (m : Message) (s : State) : State :=
  s.setQueue q
    { inbox := (s.queue q).inbox ++ [m]
      count := (s.queue q).count + 1
      underflow := (s.queue q).underflow
      en := (s.queue q).en
      bhPending := (s.queue q).bhPending || (match q with | .iop => s.cfg.bhRegisteredIop | .ap => s.cfg.bhRegisteredAp) }

/-- The state after a send to queue `q`: pushed when the direction is enabled, else the message is dropped
and the drop logged (40_mailbox_ops.md R100). -/
def sent (q : QId) (m : Message) (s : State) : State :=
  if (s.queue q).en then pushed q m s else { s with trace := s.trace ++ [.diag (.disabledSend q)] }

/-- A sequence of sends to and receives from one queue. -/
inductive QueueOp
  | send (m : Message)
  | recv
deriving DecidableEq, Repr

/-- A receive of a sequence. -/
def QueueOp.isRecv (o : QueueOp) : Bool :=
  match o with
  | .send _ => false
  | .recv => true

/-- What the receives of a sequence observe on an ideal queue that holds `pending`: the pushed messages in
order, truncated at the first receive that finds none, and `empty` for ever after (40_mailbox_ops.md
R116, property 1). -/
def idealObservations : List QueueOp → List Message → List (Option Message)
  | [], _ => []
  | .send m :: ops, pending => idealObservations ops (pending ++ [m])
  | .recv :: ops, m :: pending => some m :: idealObservations ops pending
  | .recv :: ops, [] => none :: (ops.filter QueueOp.isRecv).map (fun _ => none)

/-- What the receives of a sequence observe on queue `q` of the machine: the message that `MB.RECV`
returns, and after a stop nothing. -/
def machineObservations (q : QId) : List QueueOp → State → List (Option Message)
  | [], _ => []
  | .send m :: ops, s =>
    match exec (.mbSend q m) s with
    | .next t => machineObservations q ops t
    | _ => []
  | .recv :: ops, s =>
    match exec (.mbRecv q) s with
    | .next t =>
      (match t.result with
        | .message r => r
        | _ => none) :: machineObservations q ops t
    | _ => []

/-- A message without its depth field (40_mailbox_ops.md R116: messages compare equal except for it). -/
def withoutDepth (c : Config) (m : Message) : Message :=
  { m with flags := m.flags &&& ~~~(BitVec.ofNat 32 (2 ^ c.flagsDepthWidth - 1)) }

/-- A list of operations run one after the other; none where one has no successor. -/
def execAll : List Instr → State → Option State
  | [], s => some s
  | i :: is, s =>
    match exec i s with
    | .next t => execAll is t
    | _ => none

/-- The bits of a rollcall payload for wire id `e`: its block is advertised and its bit set. -/
def advertises (c : Config) (p : Payload) (e : Nat) : Bool :=
  rollcallBlock c p == BitVec.ofNat 6 (e / 32) && (rollcallMask c p).getLsbD (e % 32)

/-- The message that a handler's reply sends (43_rtbuddy_engine.md R194, R195). -/
def replyMessage (r : Reply) : Message :=
  match r with
  | .control id payload => ⟨payload, id, 0⟩
  | .user id payload => ⟨payload, id + 32, 0⟩

/-- The engine's outbound message on the management endpoint. -/
def mgmtMessage (p : Payload) : Message := ⟨p, 0, 0⟩

end Sys2Proof.Claims

open Sys2Proof Sys2Proof.Machine Sys2Proof.Claims

/-- Decoding an encoded well-formed operation gives it back, for every row and every operand (30_encoding.md R71 to R91). The byte layout of a request is the model's (log entry 2). -/
def Obligations.DecodeInvertsEncode : Prop :=
  ∀ (c : Config) (i : Instr), c.Wf → wellFormed c i = true → decode c (encode c i) = .ok i

/-- Every request that decodes is the encoding of the operation it decodes to: no bit of a request is dropped and no two requests are one operation (30_encoding.md R73, R91; log entry 2). -/
def Obligations.EncodeInvertsDecode : Prop :=
  ∀ (c : Config) (r : Request) (i : Instr), decode c r = .ok i → encode c i = r

/-- The decoder yields well-formed operations only: rows of the channel's generation (30_encoding.md R89), undefined rows for offsets no row names (R91), payload rows of their type. -/
def Obligations.DecodedOperationsAreWellFormed : Prop :=
  ∀ (c : Config) (r : Request) (i : Instr), decode c r = .ok i → wellFormed c i = true

/-- A few words of the opcode table, written out from 30_encoding.md R74, R75 and R81, decode to their rows. The management words use the default `MGMT_TYPE_LSB` (log entry 4), and the window of a bare word is the model's choice (log entry 14). -/
def Obligations.TableWordsDecode : Prop :=
  decodeTableWord 16 0x1000 = some (.v2WrMaskSet .apw 0)
    ∧ decodeTableWord 16 0x0008 = some (.v2RdIopCtrl .apw)
    ∧ decodeTableWord 16 0x1014 = some (.v2WrIopSend1 .apw 0)
    ∧ decodeTableWord 16 0x0038 = some (.v2RdApRecv0 .apw)
    ∧ decodeTableWord 16 0x000C = some (.v2Undefined .apw .read 0x0C 0)
    ∧ decodeTableWord 16 0x170C = some (.v4WrIopSend3 .apw 0)
    ∧ decodeTableWord 16 0x0730 = some (.v4RdApRecv0 .apw)
    ∧ decodeTableWord 64 0x0200000000000000 = some (.mgmtInHelloAck 0x0200000000000000)
    ∧ decodeTableWord 64 0x0800000000000020 = some (.mgmtInRollcall 0x0800000000000020)

/-- A step runs the operation that the next request decodes to; around it the request is taken from the list, the returned value cleared, and the channel marked as having taken a step (log entries 1, 10, 11). -/
def Obligations.StepRunsDecodedRequest : Prop :=
  ∀ (s : State) (r : Request) (rest : List Request) (i : Instr),
    s.inputs = r :: rest → decode s.cfg r = .ok i →
    step s =
      (match exec i { s with inputs := rest, result := .none } with
        | .next t => .next { t with live := t.live || !(isRegistration i) }
        | .fault f => .fault f
        | .refused e => .refused e)

/-- A request that is no operation of the channel has no successor state (log entry 2). -/
def Obligations.UndecodableRequestIsRefused : Prop :=
  ∀ (s : State) (r : Request) (rest : List Request) (e : DecodeError),
    s.inputs = r :: rest → decode s.cfg r = .error e → step s = .refused (.undecodable e)

/-- With no request and no pending callback no agent has a step, and the state changes only by steps (20_memory.md R55; log entry 3). -/
def Obligations.IdleChannelDoesNotChange : Prop :=
  ∀ s : State, s.inputs = [] → s.iop.bhPending = false → s.ap.bhPending = false → step s = .next s

/-- Weak fairness of the callbacks (20_memory.md R58): once the other agents have no step left, the next step is the run of a pending callback, that of queue IOP first (log entry 3). -/
def Obligations.PendingCallbackRuns : Prop :=
  ∀ s : State, s.inputs = [] →
    (s.iop.bhPending = true → RepliesAdmitted s →
      ∃ u, exec .bhIop { s with inputs := [], result := .none } = .next u
        ∧ step s = .next { u with live := true } ∧ u.iop.bhPending = false ∧ u.inputs = [])
    ∧ (s.iop.bhPending = false → s.ap.bhPending = true →
      ∃ u, exec .bhAp { s with inputs := [], result := .none } = .next u
        ∧ step s = .next { u with live := true } ∧ u.ap.bhPending = false ∧ u.inputs = [])

/-- Every step keeps the invariants (a) and (c) of 10_state.md R27, a callback pending only where one is registered (R24), and the registry a finite map of admitted ids (43_rtbuddy_engine.md R190 to R192). -/
def Obligations.StepKeepsChannelInvariant : Prop :=
  ∀ s t : State, Inv s → step s = .next t → Inv t

/-- The state after reset meets the invariant (70_reset_and_hazards.md R271). -/
def Obligations.ResetMeetsChannelInvariant : Prop :=
  Inv State.reset

/-- In a V2 channel a staging register or receive cache has two words (10_state.md R11, R12); the model holds four and the upper two stay zero (log entry 17). -/
def Obligations.StepKeepsV2SlotsNarrow : Prop :=
  ∀ s t : State, V2Narrow s → step s = .next t → V2Narrow t

/-- 10_state.md R27 (b): `underflow[q]` once true stays true until reset. -/
def Obligations.UnderflowIsSticky : Prop :=
  ∀ (i : Instr) (s t : State) (q : QId),
    i ≠ .reset → exec i s = .next t → (s.queue q).underflow = true → (t.queue q).underflow = true

/-- While the underflow latch is set nothing can be received: the messages of the queue stay in place and sends only append (10_state.md R16, 40_mailbox_ops.md R102 (b)). -/
def Obligations.LatchedQueueLosesNothing : Prop :=
  ∀ (i : Instr) (s t : State) (q : QId),
    i ≠ .reset → exec i s = .next t → (s.queue q).underflow = true →
    (s.queue q).inbox <+: (t.queue q).inbox

/-- 10_state.md R14: sends append at the tail, only receives remove, reset empties; no other rule changes a queue. -/
def Obligations.QueueOnlyGrowsUnlessReceived : Prop :=
  ∀ (i : Instr) (s t : State) (q : QId),
    i ≠ .reset → receivesFrom i q = false → exec i s = .next t →
    (s.queue q).inbox <+: (t.queue q).inbox ∧ (t.queue q).underflow = (s.queue q).underflow

/-- 10_state.md R27 (d): `run_state` once running stays running until reset. -/
def Obligations.RunStateIsSticky : Prop :=
  ∀ (i : Instr) (s t : State),
    i ≠ .reset → exec i s = .next t → s.runState = .running → t.runState = .running

/-- 10_state.md R10: the parameters are fixed at construction and survive reset; only registrations build the registry. -/
def Obligations.ConfigurationIsFixed : Prop :=
  ∀ (i : Instr) (s t : State), isRegistration i = false → exec i s = .next t → t.cfg = s.cfg

/-- The mask, the staging registers and the receive caches of a window are changed only through that window (10_state.md R11, R12, R18; 70_reset_and_hazards.md R284). -/
def Obligations.WindowsDoNotInterfere : Prop :=
  ∀ (i : Instr) (s t : State) (w : Win),
    i ≠ .reset → actsThrough i ≠ some w → exec i s = .next t → t.window w = s.window w

/-- There is no fatal path and no trap (43_rtbuddy_engine.md R230, 60_exceptions.md R240, R250): a step stops exactly at what the spec refuses in its state, and a run over requests that are accepted in every state never stops. That what the spec refuses ends the run is the refusal of 93_implementation_defined.md; that a callback run that is not enabled is refused is the model's choice (log entry 19). -/
def Obligations.AcceptedRunNeverStops : Prop :=
  ∀ s : State, RepliesAdmitted s →
    (s.inputs = [] → ∃ t, step s = .next t ∧ RepliesAdmitted t)
    ∧ (∀ (r : Request) (rest : List Request) (i : Instr), s.inputs = r :: rest → decode s.cfg r = .ok i →
        (accepted s i = true → ∃ t, step s = .next t ∧ RepliesAdmitted t ∧ t.inputs = rest)
        ∧ (accepted s i = false → ∃ e, step s = .refused e))
    ∧ ((∀ r ∈ s.inputs, ∃ i, decode s.cfg r = .ok i ∧ ∀ u : State, accepted u i = true) →
        ∀ n, SafeFor n s)

/-- 40_mailbox_ops.md R104 and 41_register_facade.md R130: the mask of the window is ORed with the written word, nothing else changes. -/
def Obligations.MaskSetOrsIntoTheMask : Prop :=
  ∀ (w : Win) (val : Word) (s : State),
    ∀ i ∈ [Instr.v2WrMaskSet w val, .v4WrMaskSet w val, .mbSetIntMask w val],
      exec i s = .next (s.setWindow w { s.window w with intMask := (s.window w).intMask ||| val })

/-- 40_mailbox_ops.md R105 and 41_register_facade.md R132: the mask of the window is AND-NOTed with the written word, nothing else changes. -/
def Obligations.MaskClrClearsInTheMask : Prop :=
  ∀ (w : Win) (val : Word) (s : State),
    ∀ i ∈ [Instr.v2WrMaskClr w val, .v4WrMaskClr w val, .mbClrIntMask w val],
      exec i s = .next (s.setWindow w { s.window w with intMask := (s.window w).intMask &&& ~~~val })

/-- 40_mailbox_ops.md R104: a masked line is false, except that a line stays true while an underflow latch forces it; R105: an unmasked line is true exactly when its condition or its forcing term holds. The other lines and the other window keep theirs. -/
def Obligations.MaskedLinesFall : Prop :=
  (∀ (w : Win) (bits : Word) (s t : State) (l : Line),
      exec (.mbSetIntMask w bits) s = .next t →
      (bits.getLsbD (irqBit s.cfg l) = true →
        irq t w l = (match l with
          | .nonempty q => (s.queue q).underflow
          | .empty q => s.cfg.underflowAssertsEmptyLine && (s.queue q).underflow))
      ∧ (bits.getLsbD (irqBit s.cfg l) = false → irq t w l = irq s w l)
      ∧ (∀ w' : Win, w' ≠ w → irq t w' l = irq s w' l))
    ∧ (∀ (w : Win) (bits : Word) (s t : State) (l : Line),
      exec (.mbClrIntMask w bits) s = .next t →
      (bits.getLsbD (irqBit s.cfg l) = true →
        irq t w l = (match l with
          | .nonempty q => decide (0 < (s.queue q).count) || (s.queue q).underflow
          | .empty q => decide ((s.queue q).count = 0)
              || (s.cfg.underflowAssertsEmptyLine && (s.queue q).underflow)))
      ∧ (bits.getLsbD (irqBit s.cfg l) = false → irq t w l = irq s w l)
      ∧ (∀ w' : Win, w' ≠ w → irq t w' l = irq s w' l))

/-- 41_register_facade.md R134 and R150: no state element changes and the value read is unconstrained; `freeWord` and its counter are the model's (log entry 6). -/
def Obligations.UnconstrainedReadsChangeNothing : Prop :=
  ∀ (w : Win) (s : State), ∀ i ∈ freeReads w,
    exec i s = .next { s with result := .word (Config.freeWord s.freeIdx), freeIdx := s.freeIdx + 1 }

/-- 30_encoding.md R76 (read format) and 40_mailbox_ops.md R108: the value of a control register, field by field, for every placing of the fields that 92_eei_decisions.md admits; the read has no side effect (41_register_facade.md R136). -/
def Obligations.ControlReadReturnsStatusFields : Prop :=
  ∀ (w : Win) (q : QId) (s : State), Config.BitsWf s.cfg → ∀ i ∈ controlReads w q,
    ∃ v : Word, exec i s = .next { s with result := .word v }
      ∧ v.getLsbD 0 = (s.queue q).en
      ∧ v.getLsbD s.cfg.ctrlFullBit = decide (15 ≤ (s.queue q).count)
      ∧ v.getLsbD s.cfg.ctrlEmptyBit = decide ((s.queue q).count = 0)
      ∧ v.getLsbD s.cfg.ctrlOverflowBit = decide (15 < (s.queue q).count)
      ∧ v.getLsbD s.cfg.ctrlUnderflowBit = (s.queue q).underflow
      ∧ (v >>> s.cfg.ctrlCountLsb).toNat % 2 ^ s.cfg.ctrlCountWidth
          = (s.queue q).count % 2 ^ s.cfg.ctrlCountWidth
      ∧ (∀ b, b ∉ [0, s.cfg.ctrlFullBit, s.cfg.ctrlEmptyBit, s.cfg.ctrlOverflowBit, s.cfg.ctrlUnderflowBit] →
          ¬(s.cfg.ctrlCountLsb ≤ b ∧ b < s.cfg.ctrlCountLsb + s.cfg.ctrlCountWidth) →
          v.getLsbD b = false)

/-- 41_register_facade.md R138 and 40_mailbox_ops.md R106: bit 0 becomes the enable flag, bits 31:1 are ignored, nothing else changes. -/
def Obligations.ControlWriteSetsOnlyTheEnable : Prop :=
  (∀ (w : Win) (q : QId) (val : Word) (s : State), ∀ i ∈ controlWrites w q val,
      exec i s = .next (s.setQueue q { s.queue q with en := val.getLsbD 0 }))
    ∧ (∀ (q : QId) (b : Bool) (s : State),
      exec (.mbSetDirEn q b) s = .next (s.setQueue q { s.queue q with en := b }))

/-- 41_register_facade.md R140: a non-final send word is buffered in the staging register of its window and queue, nothing else. -/
def Obligations.StagedWordIsOnlyBuffered : Prop :=
  ∀ (w : Win) (val : Word) (s : State),
    (∀ i ∈ [Instr.v2WrIopSend0 w val, .v4WrIopSend0 w val],
      exec i s = .next (s.setWindow w { s.window w with stageIop := { (s.window w).stageIop with w0 := val } }))
    ∧ exec (.v4WrIopSend1 w val) s
        = .next (s.setWindow w { s.window w with stageIop := { (s.window w).stageIop with w1 := val } })
    ∧ exec (.v4WrIopSend2 w val) s
        = .next (s.setWindow w { s.window w with stageIop := { (s.window w).stageIop with w2 := val } })
    ∧ (∀ i ∈ [Instr.v2WrApSend0 w val, .v4WrApSend0 w val],
      exec i s = .next (s.setWindow w { s.window w with stageAp := { (s.window w).stageAp with w0 := val } }))
    ∧ exec (.v4WrApSend1 w val) s
        = .next (s.setWindow w { s.window w with stageAp := { (s.window w).stageAp with w1 := val } })
    ∧ exec (.v4WrApSend2 w val) s
        = .next (s.setWindow w { s.window w with stageAp := { (s.window w).stageAp with w2 := val } })

/-- 41_register_facade.md R142: the last word is staged, and one message composed of the staged words is sent; in V2 its endpoint and flags are 0. A disabled direction drops the message and keeps the staged word. -/
def Obligations.CommitSendsTheStagedMessage : Prop :=
  ∀ (g : Gen) (w : Win) (q : QId) (val : Word) (s : State),
    let x := (s.window w).stage q
    let staged : Slot := match g with | .v2 => { x with w1 := val } | .v4 => { x with w3 := val }
    let m : Message :=
      match g with
      | .v2 => ⟨val ++ x.w0, 0, 0⟩
      | .v4 => ⟨x.w1 ++ x.w0, x.w2, val⟩
    exec (commitWrite g w q val) s = .next (sent q m (s.setWindow w ((s.window w).setStage q staged)))

/-- 41_register_facade.md R146 with 40_mailbox_ops.md R102: the tests in the order disabled, latched, empty; an empty pop zeroes the cache and returns zero; a successful pop fills the cache and returns word 0. -/
def Obligations.PopReadFillsTheCache : Prop :=
  ∀ (g : Gen) (w : Win) (q : QId) (s : State),
    let x := s.queue q
    let empty : State → State := fun u =>
      { u.setWindow w ((u.window w).setCache q ⟨0, 0, 0, 0⟩) with result := .word 0 }
    (x.en = false →
      exec (popRead g w q) s = .next (empty { s with trace := s.trace ++ [.diag (.disabledRecv q)] }))
    ∧ (x.en = true → x.underflow = true → exec (popRead g w q) s = .next (empty s))
    ∧ (x.en = true → x.underflow = false → x.count = 0 →
      exec (popRead g w q) s
        = .next (empty { s.setQueue q { x with underflow := true } with
            trace := s.trace ++ [.diag (.underflow q)] }))
    ∧ (∀ (m : Message) (rest : List Message),
      x.en = true → x.underflow = false → x.count ≠ 0 → x.inbox = m :: rest →
      ∃ f : Word, f = (stampDepth s.cfg x.count m).flags
        ∧ exec (popRead g w q) s
          = .next { (s.setQueue q { x with inbox := rest, count := x.count - 1 }).setWindow w
                ((s.window w).setCache q
                  (match g with
                    | .v2 => ⟨m.msg.extractLsb' 0 32, m.msg.extractLsb' 32 32, 0, 0⟩
                    | .v4 => ⟨m.msg.extractLsb' 0 32, m.msg.extractLsb' 32 32, m.endpoint, f⟩)) with
              result := .word (m.msg.extractLsb' 0 32) })

/-- 30_encoding.md R72 and 40_mailbox_ops.md R102: the depth field of the flags holds the depth truncated to the field; the other bits and the rest of the message are carried unchanged. -/
def Obligations.DepthStampReplacesOnlyItsField : Prop :=
  ∀ (c : Config) (depth : Nat) (m : Message) (b : Nat), c.flagsDepthWidth ≤ 32 →
    (stampDepth c depth m).msg = m.msg ∧ (stampDepth c depth m).endpoint = m.endpoint
    ∧ (b < c.flagsDepthWidth → (stampDepth c depth m).flags.getLsbD b = depth.testBit b)
    ∧ (c.flagsDepthWidth ≤ b → (stampDepth c depth m).flags.getLsbD b = m.flags.getLsbD b)

/-- 41_register_facade.md R162: any number of reads of the trailing words returns the same values and calls `MB.RECV` zero times. -/
def Obligations.TrailingReadsRepeatTheCache : Prop :=
  ∀ (w : Win) (q : QId) (s : State),
    (∀ p ∈ trailingReads w q ((s.window w).cache q), exec p.1 s = .next { s with result := .word p.2 })
    ∧ (∀ (ops : List Instr) (t : State),
      (∀ i ∈ ops, i ≠ .reset ∧ i ≠ popRead .v2 w q ∧ i ≠ popRead .v4 w q) → execAll ops s = some t →
      ∀ p ∈ trailingReads w q ((s.window w).cache q), exec p.1 t = .next { t with result := .word p.2 })

/-- 41_register_facade.md R160: a message sent through a send window comes back through the receive window of the same queue, from either window. -/
def Obligations.MessageRoundTripsThroughAWindow : Prop :=
  ∀ (w w' : Win) (q : QId) (a b c d : Word) (s : State),
    (s.queue q).en = true → (s.queue q).underflow = false → (s.queue q).count = 0 → (s.queue q).inbox = [] →
    (∃ t, execAll
        [match q with | .iop => .v2WrIopSend0 w a | .ap => .v2WrApSend0 w a,
         commitWrite .v2 w q b, popRead .v2 w' q] s = some t
      ∧ t.result = .word a ∧ ((t.window w').cache q).w0 = a ∧ ((t.window w').cache q).w1 = b)
    ∧ (∃ t, execAll
        ((match q with
          | .iop => [.v4WrIopSend0 w a, .v4WrIopSend1 w b, .v4WrIopSend2 w c]
          | .ap => [.v4WrApSend0 w a, .v4WrApSend1 w b, .v4WrApSend2 w c])
          ++ [commitWrite .v4 w q d, popRead .v4 w' q]) s = some t
      ∧ t.result = .word a ∧ ((t.window w').cache q).w0 = a ∧ ((t.window w').cache q).w1 = b
      ∧ ((t.window w').cache q).w2 = c
      ∧ ((t.window w').cache q).w3 = (stampDepth s.cfg 1 ⟨b ++ a, c, d⟩).flags)

/-- 41_register_facade.md R164: the disabled-direction scenario of the source, in both generations. -/
def Obligations.DisabledDirectionScenario : Prop :=
  ∀ (w w' : Win) (a b c d : Word) (s : State),
    s.iop.en = false → s.iop.count = 0 →
    (∃ t u, execAll [.v2WrIopSend0 w a, .v2WrIopSend1 w b] s = some t
      ∧ t.iop.count = 0 ∧ t.ap = s.ap
      ∧ execAll [.v2WrIopCtrl w' 1, .v2WrIopSend0 w a, .v2WrIopSend1 w b] t = some u ∧ u.iop.count = 1)
    ∧ (∃ t u, execAll [.v4WrIopSend0 w a, .v4WrIopSend1 w b, .v4WrIopSend2 w c, .v4WrIopSend3 w d] s = some t
      ∧ t.iop.count = 0 ∧ t.ap = s.ap
      ∧ execAll [.v4WrIopCtrl w' 1, .v4WrIopSend0 w a, .v4WrIopSend1 w b, .v4WrIopSend2 w c,
          .v4WrIopSend3 w d] t = some u ∧ u.iop.count = 1)

/-- 41_register_facade.md R152: the model refuses a write of a receive word. -/
def Obligations.ReceiveWordWritesAreRefused : Prop :=
  ∀ (w : Win) (val : Word) (s : State), ∀ i ∈ receiveWordWrites w val,
    exec i s = .refused .receiveWordWrite

/-- 41_register_facade.md R154, R156 and 42_a7iop_core.md R178, R179: accesses without a meaning are refused by name. -/
def Obligations.UndefinedAccessesAreRefused : Prop :=
  (∀ (w : Win) (dir : Dir) (off : Nat) (val : Word) (s : State),
      exec (.v2Undefined w dir off val) s = .refused .undefinedOffset
      ∧ exec (.v4Undefined w dir off val) s = .refused .undefinedOffset)
    ∧ (∀ (sp : Space) (dir : Dir) (size : Size) (off val : Nat) (s : State),
      exec (.regBadSize sp dir size off val) s = .refused .badAccess)
    ∧ (∀ (val : Word) (s : State), exec (.ctlWrCpuStatus val) s = .refused .statusWordWrite)
    ∧ (∀ (dir : Dir) (off : Nat) (val : Word) (s : State),
      exec (.ctlUndefined dir off val) s = .refused .undefinedControlOffset)

/-- 40_mailbox_ops.md R100, 42_a7iop_core.md R170, R172: an enabled direction accepts the message whatever its depth and whatever the latch; a disabled one drops it with a diagnostic. -/
def Obligations.SendPushesOrDrops : Prop :=
  ∀ (q : QId) (m : Message) (s : State),
    exec (.mbSend q m) s = .next (sent q m s)
    ∧ exec (.sendToAp m) s = .next (sent .ap m s)
    ∧ exec (.sendToIop m) s = .next (sent .iop m s)

/-- 40_mailbox_ops.md R102, 42_a7iop_core.md R171, R173: the tests in the order disabled, latched, empty. -/
def Obligations.ReceiveReturnsTheOldestMessage : Prop :=
  ∀ (q : QId) (s : State), ∀ i ∈ [Instr.mbRecv q, match q with | .iop => .receiveFromAp | .ap => .receiveFromIop],
    let x := s.queue q
    (x.en = false →
      exec i s = .next { s with trace := s.trace ++ [.diag (.disabledRecv q)], result := .message none })
    ∧ (x.en = true → x.underflow = true → exec i s = .next { s with result := .message none })
    ∧ (x.en = true → x.underflow = false → x.count = 0 →
      exec i s = .next { s.setQueue q { x with underflow := true } with
        trace := s.trace ++ [.diag (.underflow q)], result := .message none })
    ∧ (∀ (m : Message) (rest : List Message),
      x.en = true → x.underflow = false → x.count ≠ 0 → x.inbox = m :: rest →
      exec i s = .next { s.setQueue q { x with inbox := rest, count := x.count - 1 } with
        result := .message (some (stampDepth s.cfg x.count m)) })

/-- 40_mailbox_ops.md R116, property 1: the receives observe exactly the pushed messages in FIFO order, truncated at the first receive that finds none, then empty for ever. -/
def Obligations.QueueRefinesTheIdealFifo : Prop :=
  ∀ (q : QId) (ops : List QueueOp) (s : State),
    (s.queue q).en = true → (s.queue q).underflow = false → QueueConsistent (s.queue q) →
    s.cfg.flagsDepthWidth ≤ 32 →
    (machineObservations q ops s).map (Option.map (withoutDepth s.cfg))
      = (idealObservations ops (s.queue q).inbox).map (Option.map (withoutDepth s.cfg))

/-- 40_mailbox_ops.md R100 (a), R108 (a), (b) and R116, property 4: pushes beyond `MAX_DEPTH` are accepted and only flagged. -/
def Obligations.PushesBeyondTheDepthAreKept : Prop :=
  ∀ (q : QId) (ms : List Message) (s : State),
    Config.BitsWf s.cfg → (s.queue q).en = true → QueueConsistent (s.queue q) →
    ∃ t, execAll (ms.map (Instr.mbSend q)) s = some t
      ∧ (t.queue q).inbox = (s.queue q).inbox ++ ms
      ∧ (t.queue q).count = (s.queue q).inbox.length + ms.length
      ∧ (statusWord t.cfg (t.queue q)).getLsbD t.cfg.ctrlFullBit
          = decide (15 ≤ (s.queue q).inbox.length + ms.length)
      ∧ (statusWord t.cfg (t.queue q)).getLsbD t.cfg.ctrlOverflowBit
          = decide (15 < (s.queue q).inbox.length + ms.length)

/-- 10_state.md R19: the four lines of a window as functions of the state, in every state (40_mailbox_ops.md R116, property 3); 60_exceptions.md R247: the empty lines after reset in every channel, complementary lines of a queue, and the line that masking cannot silence. -/
def Obligations.InterruptLineConsequences : Prop :=
  (∀ (s : State) (w : Win),
      irq s w (.nonempty .iop)
        = ((decide (0 < s.iop.count) && !(s.window w).intMask.getLsbD s.cfg.irqbitIopNonempty) || s.iop.underflow)
      ∧ irq s w (.nonempty .ap)
        = ((decide (0 < s.ap.count) && !(s.window w).intMask.getLsbD s.cfg.irqbitApNonempty) || s.ap.underflow)
      ∧ irq s w (.empty .iop)
        = ((decide (s.iop.count = 0) && !(s.window w).intMask.getLsbD s.cfg.irqbitIopEmpty)
          || (s.cfg.underflowAssertsEmptyLine && s.iop.underflow))
      ∧ irq s w (.empty .ap)
        = ((decide (s.ap.count = 0) && !(s.window w).intMask.getLsbD s.cfg.irqbitApEmpty)
          || (s.cfg.underflowAssertsEmptyLine && s.ap.underflow)))
    ∧ (∀ (s t : State) (w : Win) (q : QId), exec .reset s = .next t →
      irq t w (.empty q) = true ∧ irq t w (.nonempty q) = false)
    ∧ (∀ (w : Win) (q : QId), irq State.reset w (.empty q) = true ∧ irq State.reset w (.nonempty q) = false)
    ∧ (∀ (s : State) (w : Win) (q : QId),
      permit s w (.empty q) = true → permit s w (.nonempty q) = true → (s.queue q).underflow = false →
      irq s w (.empty q) = !(irq s w (.nonempty q)))
    ∧ (∀ (s t : State) (w w' : Win) (q : QId) (bits : Word),
      (s.queue q).underflow = true → exec (.mbSetIntMask w bits) s = .next t →
      irq t w' (.nonempty q) = true)

/-- 42_a7iop_core.md R176, R180: the word is stored; with the run bit the core runs and the hook is invoked in the same step. -/
def Obligations.CpuControlWriteRunsTheCore : Prop :=
  ∀ (val : Word) (s : State),
    (val.getLsbD s.cfg.cpuCtrlRunBit = false → exec (.ctlWrCpuCtrl val) s = .next { s with cpuCtrl := val })
    ∧ (val.getLsbD s.cfg.cpuCtrlRunBit = true → s.cfg.hookTarget = .nothing →
      exec (.ctlWrCpuCtrl val) s = .next { s with cpuCtrl := val, runState := .running })
    ∧ (val.getLsbD s.cfg.cpuCtrlRunBit = true → s.cfg.hookTarget = .engine →
      exec (.ctlWrCpuCtrl val) s = exec .startOrWakeup { s with cpuCtrl := val, runState := .running })

/-- 42_a7iop_core.md R177, R178: the control word reads back as written, the status word shows IDLE; no side effect. -/
def Obligations.CpuWordsReadBack : Prop :=
  ∀ s : State,
    exec .ctlRdCpuCtrl s = .next { s with result := .word s.cpuCtrl }
    ∧ exec .ctlRdCpuStatus s
      = .next { s with result := .word (match s.runState with | .idle => 1#32 <<< s.cfg.cpuStatusIdleBit | .running => 0) }

/-- 42_a7iop_core.md R182: the complete transition table of `run_state` with its actions, and that the transport does not depend on it. -/
def Obligations.RunStateTransitionTable : Prop :=
  (∀ (val : Word) (s : State),
      ∃ t, exec (.ctlWrCpuCtrl val) s = .next t
        ∧ t.runState = (match s.runState, val.getLsbD s.cfg.cpuCtrlRunBit with
            | .idle, true => .running
            | .idle, false => .idle
            | .running, _ => .running)
        ∧ (val.getLsbD s.cfg.cpuCtrlRunBit = false → t = { s with cpuCtrl := val })
        ∧ (val.getLsbD s.cfg.cpuCtrlRunBit = true → s.cfg.hookTarget = .engine →
            exec .startOrWakeup { s with cpuCtrl := val, runState := .running } = .next t)
        ∧ (val.getLsbD s.cfg.cpuCtrlRunBit = true → s.cfg.hookTarget = .nothing →
            t = { s with cpuCtrl := val, runState := .running }))
    ∧ (∀ s : State, ∃ t, exec .reset s = .next t ∧ t.runState = .idle)
    ∧ (∀ (i : Instr) (s t : State), i ≠ .reset → (∀ val, i ≠ .ctlWrCpuCtrl val) →
      exec i s = .next t → t.runState = s.runState)
    ∧ (∀ (q : QId) (m : Message) (r : RunState) (s t : State),
      (exec (.mbSend q m) s = .next t → exec (.mbSend q m) { s with runState := r } = .next { t with runState := r })
      ∧ (exec (.mbRecv q) s = .next t → exec (.mbRecv q) { s with runState := r } = .next { t with runState := r }))

/-- 43_rtbuddy_engine.md R200 and 30_encoding.md R82: from IDLE the engine sends hello with both version fields `PROTOCOL_VERSION` and goes to WAIT_HELLO; otherwise the event is only logged. -/
def Obligations.StartSendsHello : Prop :=
  ∀ s : State,
    (s.ep0Status = .idle →
      ∃ p : Payload, exec .startOrWakeup s = .next { sent .ap (mgmtMessage p) s with ep0Status := .waitHello }
        ∧ (Config.PayloadWf s.cfg →
            p.extractLsb' s.cfg.mgmtTypeLsb 4 = 1#4
            ∧ p.extractLsb' s.cfg.helloMajorLsb 16 = s.cfg.protocolVersion
            ∧ p.extractLsb' s.cfg.helloMinorLsb 16 = s.cfg.protocolVersion
            ∧ (∀ b, ¬(s.cfg.mgmtTypeLsb ≤ b ∧ b < s.cfg.mgmtTypeLsb + 4) →
                ¬(s.cfg.helloMajorLsb ≤ b ∧ b < s.cfg.helloMajorLsb + 16) →
                ¬(s.cfg.helloMinorLsb ≤ b ∧ b < s.cfg.helloMinorLsb + 16) → p.getLsbD b = false)))
    ∧ (s.ep0Status ≠ .idle →
      exec .startOrWakeup s = .next { s with trace := s.trace ++ [.diag (.startNotIdle s.ep0Status)] })

/-- 43_rtbuddy_engine.md R204: in WAIT_HELLO the rollcall list is built, its head sent and the rest held; otherwise the message is logged and dropped. No field of the hello-ack is read. -/
def Obligations.HelloAckSendsFirstRollcall : Prop :=
  ∀ (p : Payload) (s : State),
    (s.ep0Status = .waitHello → ∃ (first : Payload) (rest : List Payload),
      buildRollcall s.cfg = first :: rest
      ∧ exec (.mgmtInHelloAck p) s
        = .next (sent .ap (mgmtMessage first) { s with ep0Status := .waitRollcall, rollcallQ := rest }))
    ∧ (s.ep0Status ≠ .waitHello →
      exec (.mgmtInHelloAck p) s
        = .next { s with trace := s.trace ++ [.diag (.desync (p.extractLsb' s.cfg.mgmtTypeLsb 4) s.ep0Status)] })

/-- 43_rtbuddy_engine.md R210: an echo sends the next rollcall message, or the power-state acknowledgment with value 32 and goes to IDLE; outside WAIT_ROLLCALL it is logged and dropped. -/
def Obligations.RollcallEchoAdvances : Prop :=
  ∀ (p : Payload) (s : State),
    (s.ep0Status = .waitRollcall →
      (∀ (next : Payload) (rest : List Payload), s.rollcallQ = next :: rest →
        exec (.mgmtInRollcall p) s = .next (sent .ap (mgmtMessage next) { s with rollcallQ := rest }))
      ∧ (s.rollcallQ = [] →
        exec (.mgmtInRollcall p) s
          = .next { sent .ap (mgmtMessage (mgmtOf s.cfg 7 ||| (32#64 <<< s.cfg.pwrStateLsb))) s with ep0Status := .idle }))
    ∧ (s.ep0Status ≠ .waitRollcall →
      exec (.mgmtInRollcall p) s
        = .next { s with trace := s.trace ++ [.diag (.desync (p.extractLsb' s.cfg.mgmtTypeLsb 4) s.ep0Status)] })

/-- 43_rtbuddy_engine.md R204, R210 (b) and 70_reset_and_hazards.md R277: with n rollcall messages the engine needs n echoes, sends each message once in order, then the acknowledgment, and is IDLE. -/
def Obligations.BringUpSendsTheWholeRollcall : Prop :=
  ∀ (p : Payload) (echoes : List Payload) (s : State),
    s.ep0Status = .waitHello → s.ap.en = true → echoes.length = (buildRollcall s.cfg).length →
    ∃ t, execAll (.mgmtInHelloAck p :: echoes.map Instr.mgmtInRollcall) s = some t
      ∧ t.ep0Status = .idle ∧ t.rollcallQ = []
      ∧ t.ap.inbox
        = s.ap.inbox ++ ((buildRollcall s.cfg) ++ [mgmtOf s.cfg 7 ||| (32#64 <<< s.cfg.pwrStateLsb)]).map mgmtMessage
      ∧ t.iop = s.iop ∧ t.iopw = s.iopw ∧ t.apw = s.apw ∧ t.runState = s.runState ∧ t.cfg = s.cfg

/-- 43_rtbuddy_engine.md R206 and 30_encoding.md R84: one message per populated block in ascending order, advertising exactly the registered endpoints, then the terminal message; all bits outside the four fields are 0. -/
def Obligations.RollcallCoversExactlyTheRegistry : Prop :=
  ∀ c : Config, c.Wf →
    (∀ e, e < 2048 → (((buildRollcall c).any (fun p => advertises c p e)) = true ↔ ∃ x ∈ c.registry, x.wire = e))
    ∧ (∀ p ∈ buildRollcall c, mgmtType c p = 8
        ∧ ∀ b, ¬(c.mgmtTypeLsb ≤ b ∧ b < c.mgmtTypeLsb + 4) →
          ¬(c.rollcallMaskLsb ≤ b ∧ b < c.rollcallMaskLsb + 32) →
          ¬(c.rollcallBlockLsb ≤ b ∧ b < c.rollcallBlockLsb + 6) →
          b ≠ c.rollcallEndedBit → p.getLsbD b = false)
    ∧ (∃ init terminal, buildRollcall c = init ++ [terminal]
        ∧ rollcallEnded c terminal = true ∧ rollcallMask c terminal = 0 ∧ rollcallBlock c terminal = 0
        ∧ (∀ p ∈ init, rollcallEnded c p = false ∧ rollcallMask c p ≠ 0)
        ∧ (init.map (fun p => (rollcallBlock c p).toNat)).Pairwise (· < ·))
    ∧ (∀ s : State, exec .buildRollcall s = .next { s with result := .payloads (buildRollcall s.cfg) })

/-- 43_rtbuddy_engine.md R212: a ping is answered in every state with its payload, the type field replaced by 4; the engine's state does not change. -/
def Obligations.PingIsAlwaysAnswered : Prop :=
  ∀ (p : Payload) (s : State), Config.PayloadWf s.cfg →
    ∃ a : Payload, exec (.mgmtInPing p) s = .next (sent .ap (mgmtMessage a) s)
      ∧ a.extractLsb' s.cfg.mgmtTypeLsb 4 = 4#4
      ∧ (∀ b, ¬(s.cfg.mgmtTypeLsb ≤ b ∧ b < s.cfg.mgmtTypeLsb + 4) → a.getLsbD b = p.getLsbD b)

/-- 43_rtbuddy_engine.md R214: every other management type is dropped with a diagnostic; no state change, no reply. -/
def Obligations.OtherManagementTypesAreDropped : Prop :=
  ∀ (p : Payload) (s : State), ∀ i ∈ droppedTypes p,
    exec i s = .next { s with trace := s.trace ++ [.diag (.mgmtDropped (p.extractLsb' s.cfg.mgmtTypeLsb 4))] }

/-- 43_rtbuddy_engine.md R216: management dispatch reads only the type field. -/
def Obligations.DispatchSelectsByTypeAlone : Prop :=
  ∀ (p : Payload) (s : State),
    exec (.mgmtDispatch p) s =
      (if p.extractLsb' s.cfg.mgmtTypeLsb 4 = 2#4 then exec (.mgmtInHelloAck p) s
       else if p.extractLsb' s.cfg.mgmtTypeLsb 4 = 8#4 then exec (.mgmtInRollcall p) s
       else if p.extractLsb' s.cfg.mgmtTypeLsb 4 = 3#4 then exec (.mgmtInPing p) s
       else exec (.mgmtInReserved0 p) s)
    ∧ Completes (exec (.mgmtDispatch p) s)

/-- The payload formats are those of 30_encoding.md R82 to R85, for every admitted placing of the fields. That an outbound row, executed as a step of its own, sends its payload on endpoint 0 is the model's choice (log entries 12, 13), not a rule of the spec. -/
def Obligations.OutboundPayloadsAreSent : Prop :=
  ∀ (mask : Word) (block : BitVec 6) (ended : Bool) (ping : Payload) (s : State), Config.PayloadWf s.cfg →
    (∃ p : Payload, exec .mgmtOutHello s = .next (sent .ap (mgmtMessage p) s)
      ∧ p.extractLsb' s.cfg.mgmtTypeLsb 4 = 1#4
      ∧ p.extractLsb' s.cfg.helloMajorLsb 16 = s.cfg.protocolVersion
      ∧ p.extractLsb' s.cfg.helloMinorLsb 16 = s.cfg.protocolVersion
      ∧ (∀ b, ¬(s.cfg.mgmtTypeLsb ≤ b ∧ b < s.cfg.mgmtTypeLsb + 4) →
          ¬(s.cfg.helloMajorLsb ≤ b ∧ b < s.cfg.helloMajorLsb + 16) →
          ¬(s.cfg.helloMinorLsb ≤ b ∧ b < s.cfg.helloMinorLsb + 16) → p.getLsbD b = false))
    ∧ (∃ p : Payload, exec (.mgmtOutPingAck ping) s = .next (sent .ap (mgmtMessage p) s)
      ∧ p.extractLsb' s.cfg.mgmtTypeLsb 4 = 4#4
      ∧ (∀ b, ¬(s.cfg.mgmtTypeLsb ≤ b ∧ b < s.cfg.mgmtTypeLsb + 4) → p.getLsbD b = ping.getLsbD b))
    ∧ (∃ p : Payload, exec (.mgmtOutRollcall mask block ended) s = .next (sent .ap (mgmtMessage p) s)
      ∧ mgmtType s.cfg p = 8 ∧ rollcallMask s.cfg p = mask ∧ rollcallBlock s.cfg p = block
      ∧ rollcallEnded s.cfg p = ended
      ∧ (∀ b, ¬(s.cfg.mgmtTypeLsb ≤ b ∧ b < s.cfg.mgmtTypeLsb + 4) →
          ¬(s.cfg.rollcallMaskLsb ≤ b ∧ b < s.cfg.rollcallMaskLsb + 32) →
          ¬(s.cfg.rollcallBlockLsb ≤ b ∧ b < s.cfg.rollcallBlockLsb + 6) →
          b ≠ s.cfg.rollcallEndedBit → p.getLsbD b = false))
    ∧ (∃ p : Payload, exec .mgmtOutPowerStateAck s = .next (sent .ap (mgmtMessage p) s)
      ∧ mgmtType s.cfg p = 7 ∧ (p >>> s.cfg.pwrStateLsb).toNat % 2 ^ s.cfg.pwrStateWidth = 32
      ∧ (∀ b, ¬(s.cfg.mgmtTypeLsb ≤ b ∧ b < s.cfg.mgmtTypeLsb + 4) →
          ¬(s.cfg.pwrStateLsb ≤ b ∧ b < s.cfg.pwrStateLsb + s.cfg.pwrStateWidth) → p.getLsbD b = false))

/-- 43_rtbuddy_engine.md R228: every transition of `ep0_status` is one of the table; every pair not listed leaves it unchanged. -/
def Obligations.Ep0TransitionsOnlyByTheTable : Prop :=
  (∀ (i : Instr) (s t : State), mayChangeEp0 i = false → exec i s = .next t → t.ep0Status = s.ep0Status)
    ∧ (∀ (i : Instr) (s t : State), i ∈ [Instr.startOrWakeup] ∨ (∃ val, i = .ctlWrCpuCtrl val) →
      exec i s = .next t → t.ep0Status = s.ep0Status ∨ (s.ep0Status = .idle ∧ t.ep0Status = .waitHello))
    ∧ (∀ (p : Payload) (s t : State), exec (.mgmtDispatch p) s = .next t →
      t.ep0Status = s.ep0Status
      ∨ (s.ep0Status = .waitHello ∧ mgmtType s.cfg p = 2 ∧ t.ep0Status = .waitRollcall)
      ∨ (s.ep0Status = .waitRollcall ∧ mgmtType s.cfg p = 8 ∧ s.rollcallQ = [] ∧ t.ep0Status = .idle))
    ∧ (∀ (m : Message) (s t : State), m.endpoint ≠ 0 → exec (.routeRegistered m) s = .next t →
      t.ep0Status = s.ep0Status)

/-- 43_rtbuddy_engine.md R194, R195: a consumer sends on control endpoint id, or on user endpoint id + 32, with flags 0; ids outside the range are refused. -/
def Obligations.ConsumerSendsOnItsEndpoint : Prop :=
  ∀ (id : Word) (payload : Payload) (s : State),
    (id.toNat < 32 → exec (.sendControlMessage id payload) s = .next (sent .ap ⟨payload, id, 0⟩ s))
    ∧ (32 ≤ id.toNat → exec (.sendControlMessage id payload) s = .refused .endpointIdOutOfRange)
    ∧ (id.toNat ≤ 2015 → exec (.sendUserMessage id payload) s = .next (sent .ap ⟨payload, id + 32, 0⟩ s))
    ∧ (2015 < id.toNat → exec (.sendUserMessage id payload) s = .refused .endpointIdOutOfRange)

/-- 43_rtbuddy_engine.md R190 to R192: a registration adds one entry to the finite map; ids out of range, late and duplicate registrations are refused. -/
def Obligations.RegistrationAddsOneEndpoint : Prop :=
  ∀ (id : Word) (h : Nat) (user : Bool) (s : State),
    let wire := if user then id.toNat + 32 else id.toNat
    let op : Instr := if user then .registerUserEndpoint id h else .registerControlEndpoint id h
    let inRange := if user then id.toNat ≤ 2015 else 1 ≤ id.toNat ∧ id.toNat ≤ 31
    (inRange → s.live = false → lookupEndpoint s.cfg.registry wire = none →
      ∃ reg, exec op s = .next { s with cfg := { s.cfg with registry := reg } }
        ∧ lookupEndpoint reg wire = some ⟨wire, h, user⟩
        ∧ (∀ e, e ≠ wire → lookupEndpoint reg e = lookupEndpoint s.cfg.registry e)
        ∧ (Config.RegistryWf s.cfg.registry → Config.RegistryWf reg))
    ∧ (¬inRange → exec op s = .refused .registrationIdOutOfRange)
    ∧ (inRange → s.live = true → exec op s = .refused .lateRegistration)
    ∧ (inRange → s.live = false → lookupEndpoint s.cfg.registry wire ≠ none →
      exec op s = .refused .duplicateRegistration)

/-- 43_rtbuddy_engine.md R222, R224, R226: the management endpoint is dispatched, a registered endpoint delivered with its local number and its replies sent in order, any other message logged and dropped. The list of replies is the environment's (log entry 7). -/
def Obligations.RouteDeliversToTheHandler : Prop :=
  ∀ (m : Message) (s : State),
    (m.endpoint = 0 → exec (.routeRegistered m) s = exec (.mgmtDispatch m.msg) s)
    ∧ (∀ x : Endpoint, m.endpoint ≠ 0 → lookupEndpoint s.cfg.registry m.endpoint.toNat = some x →
      ((∀ r ∈ s.replies.headD [], ReplyAdmitted r) →
        exec (.routeRegistered m) s
          = .next ((s.replies.headD []).foldl (fun u r => sent .ap (replyMessage r) u)
              { s with
                replies := s.replies.tail
                trace := s.trace ++ [if m.endpoint.toNat < 32 then .deliver x.handler m.endpoint false m.msg
                  else .deliver x.handler (m.endpoint - 32) true m.msg] }))
      ∧ ((∃ r ∈ s.replies.headD [], ¬ReplyAdmitted r) →
        exec (.routeRegistered m) s = .refused .endpointIdOutOfRange))
    ∧ (m.endpoint ≠ 0 → lookupEndpoint s.cfg.registry m.endpoint.toNat = none →
      exec (.routeRegistered m) s = exec (.routeUnregistered m) s)
    ∧ exec (.routeUnregistered m) s = .next { s with trace := s.trace ++ [.diag (.unregisteredEp m.endpoint)] }

/-- 43_rtbuddy_engine.md R220: the callback run clears the pending flag and drains queue IOP inside one step, never latching the underflow; on a disabled, underflowed or empty queue it does nothing else. -/
def Obligations.CallbackDrainsQueueIop : Prop :=
  ∀ s : State, s.iop.bhPending = true → RepliesAdmitted s → QueueConsistent s.iop →
    ∃ t, exec .bhIop s = .next t
      ∧ t.iop = (if s.iop.en = true ∧ s.iop.underflow = false
          then { inbox := [], count := 0, underflow := false, en := true, bhPending := false }
          else { s.iop with bhPending := false })
      ∧ (s.iop.en = false ∨ s.iop.underflow = true ∨ s.iop.inbox = [] →
          t = { s with iop := { s.iop with bhPending := false } })
      ∧ s.ap.inbox <+: t.ap.inbox ∧ t.ap.en = s.ap.en ∧ t.ap.underflow = s.ap.underflow
      ∧ t.ap.bhPending
        = (s.ap.bhPending || (s.cfg.bhRegisteredAp && decide (s.ap.inbox.length < t.ap.inbox.length)))
      ∧ s.trace <+: t.trace
      ∧ t.cfg = s.cfg ∧ t.iopw = s.iopw ∧ t.apw = s.apw ∧ t.runState = s.runState ∧ t.cpuCtrl = s.cpuCtrl
      ∧ t.inputs = s.inputs ∧ t.result = s.result ∧ t.freeIdx = s.freeIdx ∧ t.live = s.live

/-- 43_rtbuddy_engine.md R220: the loop pops the oldest message, routes it, and goes on with the rest. -/
def Obligations.CallbackRoutesInOrder : Prop :=
  ∀ (s t : State) (m : Message) (rest : List Message),
    s.iop.bhPending = true → s.iop.en = true → s.iop.underflow = false → QueueConsistent s.iop →
    s.iop.inbox = m :: rest →
    exec .bhIop s = .next t →
    ∃ u, exec (.routeRegistered (stampDepth s.cfg s.iop.count m))
        { s with iop := { s.iop with inbox := rest, count := rest.length, bhPending := false } } = .next u
      ∧ exec .bhIop { u with iop := { u.iop with bhPending := true } } = .next t

/-- 20_memory.md R58, 43_rtbuddy_engine.md R220: the step is enabled exactly while the flag of its queue is true (log entry 19); 10_state.md R24: a run of the callback of queue AP clears its flag (log entry 18). -/
def Obligations.CallbackNeedsToBePending : Prop :=
  ∀ s : State,
    (s.iop.bhPending = false → exec .bhIop s = .refused .callbackNotPending)
    ∧ (s.ap.bhPending = false → exec .bhAp s = .refused .callbackNotPending)
    ∧ (s.ap.bhPending = true → exec .bhAp s = .next { s with ap := { s.ap with bhPending := false } })

/-- 70_reset_and_hazards.md R270: every state element is assigned its reset value and the configuration is untouched. -/
def Obligations.ResetClearsTheChannel : Prop :=
  ∀ s : State, exec .reset s = .next
    { s with
      iop := { inbox := [], count := 0, underflow := false, en := true, bhPending := false }
      ap := { inbox := [], count := 0, underflow := false, en := true, bhPending := false }
      iopw := { intMask := 0, stageIop := ⟨0, 0, 0, 0⟩, stageAp := ⟨0, 0, 0, 0⟩,
                cacheIop := ⟨0, 0, 0, 0⟩, cacheAp := ⟨0, 0, 0, 0⟩ }
      apw := { intMask := 0, stageIop := ⟨0, 0, 0, 0⟩, stageAp := ⟨0, 0, 0, 0⟩,
               cacheIop := ⟨0, 0, 0, 0⟩, cacheAp := ⟨0, 0, 0, 0⟩ }
      runState := .idle
      cpuCtrl := 0
      ep0Status := .idle
      rollcallQ := [] }

/-- 70_reset_and_hazards.md R272: RESET twice is RESET once, and RESET from any state gives the same state (10_state.md R10: the configuration is no state). -/
def Obligations.ResetIsIdempotent : Prop :=
  (∀ s t : State, exec .reset s = .next t → exec .reset t = .next t)
    ∧ (∀ s s' t t' : State, exec .reset s = .next t → exec .reset s' = .next t' →
      t = { t' with
        cfg := t.cfg, inputs := t.inputs, replies := t.replies, trace := t.trace, result := t.result,
        freeIdx := t.freeIdx, live := t.live })

/-- 70_reset_and_hazards.md R271: what the state after reset shows, at the default bit positions of 00_scope.md R4 (log entry 4). -/
def Obligations.ResetStateOutputs : Prop :=
  (∀ (w : Win) (q : QId), irq State.reset w (.nonempty q) = false ∧ irq State.reset w (.empty q) = true)
    ∧ (∀ q : QId, exec (.status q) State.reset = .next { State.reset with result := .word 0x00020001 })
    ∧ exec .ctlRdCpuStatus State.reset = .next { State.reset with result := .word 0x00000001 }
    ∧ exec .ctlRdCpuCtrl State.reset = .next { State.reset with result := .word 0 }
    ∧ State.reset.iop = State.reset.ap ∧ State.reset.iopw = State.reset.apw
    ∧ State.reset.ep0Status = .idle ∧ State.reset.rollcallQ = []
end

