-- ==== Sys2Proof/Laws/State.lean ====
section
/-! SUPPORT. What each named update of a state leaves alone, field by field, and what it writes. -/

namespace Sys2Proof.Machine

@[simp] theorem setQueue_cfg (s : State) (q : QId) (v : QueueState) : (s.setQueue q v).cfg = s.cfg := by cases q <;> rfl

@[simp] theorem setQueue_iopw (s : State) (q : QId) (v : QueueState) : (s.setQueue q v).iopw = s.iopw := by cases q <;> rfl

@[simp] theorem setQueue_apw (s : State) (q : QId) (v : QueueState) : (s.setQueue q v).apw = s.apw := by cases q <;> rfl

@[simp] theorem setQueue_runState (s : State) (q : QId) (v : QueueState) : (s.setQueue q v).runState = s.runState := by cases q <;> rfl

@[simp] theorem setQueue_cpuCtrl (s : State) (q : QId) (v : QueueState) : (s.setQueue q v).cpuCtrl = s.cpuCtrl := by cases q <;> rfl

@[simp] theorem setQueue_ep0Status (s : State) (q : QId) (v : QueueState) : (s.setQueue q v).ep0Status = s.ep0Status := by cases q <;> rfl

@[simp] theorem setQueue_rollcallQ (s : State) (q : QId) (v : QueueState) : (s.setQueue q v).rollcallQ = s.rollcallQ := by cases q <;> rfl

@[simp] theorem setQueue_inputs (s : State) (q : QId) (v : QueueState) : (s.setQueue q v).inputs = s.inputs := by cases q <;> rfl

@[simp] theorem setQueue_replies (s : State) (q : QId) (v : QueueState) : (s.setQueue q v).replies = s.replies := by cases q <;> rfl

@[simp] theorem setQueue_trace (s : State) (q : QId) (v : QueueState) : (s.setQueue q v).trace = s.trace := by cases q <;> rfl

@[simp] theorem setQueue_result (s : State) (q : QId) (v : QueueState) : (s.setQueue q v).result = s.result := by cases q <;> rfl

@[simp] theorem setQueue_freeIdx (s : State) (q : QId) (v : QueueState) : (s.setQueue q v).freeIdx = s.freeIdx := by cases q <;> rfl

@[simp] theorem setQueue_live (s : State) (q : QId) (v : QueueState) : (s.setQueue q v).live = s.live := by cases q <;> rfl

@[simp] theorem setWindow_cfg (s : State) (w : Win) (v : WindowState) : (s.setWindow w v).cfg = s.cfg := by cases w <;> rfl

@[simp] theorem setWindow_iop (s : State) (w : Win) (v : WindowState) : (s.setWindow w v).iop = s.iop := by cases w <;> rfl

@[simp] theorem setWindow_ap (s : State) (w : Win) (v : WindowState) : (s.setWindow w v).ap = s.ap := by cases w <;> rfl

@[simp] theorem setWindow_runState (s : State) (w : Win) (v : WindowState) : (s.setWindow w v).runState = s.runState := by cases w <;> rfl

@[simp] theorem setWindow_cpuCtrl (s : State) (w : Win) (v : WindowState) : (s.setWindow w v).cpuCtrl = s.cpuCtrl := by cases w <;> rfl

@[simp] theorem setWindow_ep0Status (s : State) (w : Win) (v : WindowState) : (s.setWindow w v).ep0Status = s.ep0Status := by cases w <;> rfl

@[simp] theorem setWindow_rollcallQ (s : State) (w : Win) (v : WindowState) : (s.setWindow w v).rollcallQ = s.rollcallQ := by cases w <;> rfl

@[simp] theorem setWindow_inputs (s : State) (w : Win) (v : WindowState) : (s.setWindow w v).inputs = s.inputs := by cases w <;> rfl

@[simp] theorem setWindow_replies (s : State) (w : Win) (v : WindowState) : (s.setWindow w v).replies = s.replies := by cases w <;> rfl

@[simp] theorem setWindow_trace (s : State) (w : Win) (v : WindowState) : (s.setWindow w v).trace = s.trace := by cases w <;> rfl

@[simp] theorem setWindow_result (s : State) (w : Win) (v : WindowState) : (s.setWindow w v).result = s.result := by cases w <;> rfl

@[simp] theorem setWindow_freeIdx (s : State) (w : Win) (v : WindowState) : (s.setWindow w v).freeIdx = s.freeIdx := by cases w <;> rfl

@[simp] theorem setWindow_live (s : State) (w : Win) (v : WindowState) : (s.setWindow w v).live = s.live := by cases w <;> rfl

@[simp] theorem setQueue_window (s : State) (q : QId) (v : QueueState) (w : Win) : (s.setQueue q v).window w = s.window w := by cases q <;> cases w <;> rfl

@[simp] theorem setWindow_queue (s : State) (w : Win) (v : WindowState) (q : QId) : (s.setWindow w v).queue q = s.queue q := by cases q <;> cases w <;> rfl

@[simp] theorem queue_setQueue_self (s : State) (q : QId) (v : QueueState) : (s.setQueue q v).queue q = v := by cases q <;> rfl

@[simp] theorem window_setWindow_self (s : State) (w : Win) (v : WindowState) : (s.setWindow w v).window w = v := by cases w <;> rfl

theorem queue_setQueue_ne (s : State) {q q' : QId} (v : QueueState) (h : q' ≠ q) :
    (s.setQueue q v).queue q' = s.queue q' := by
  cases q <;> cases q' <;> simp_all [State.setQueue, State.queue]

theorem window_setWindow_ne (s : State) {w w' : Win} (v : WindowState) (h : w' ≠ w) :
    (s.setWindow w v).window w' = s.window w' := by
  cases w <;> cases w' <;> simp_all [State.setWindow, State.window]

@[simp] theorem setQueue_iop_iop (s : State) (v : QueueState) : (s.setQueue .iop v).iop = v := rfl

@[simp] theorem setQueue_iop_ap (s : State) (v : QueueState) : (s.setQueue .iop v).ap = s.ap := rfl

@[simp] theorem setQueue_ap_ap (s : State) (v : QueueState) : (s.setQueue .ap v).ap = v := rfl

@[simp] theorem setQueue_ap_iop (s : State) (v : QueueState) : (s.setQueue .ap v).iop = s.iop := rfl

@[simp] theorem queue_iop (s : State) : s.queue .iop = s.iop := rfl

@[simp] theorem queue_ap (s : State) : s.queue .ap = s.ap := rfl

@[simp] theorem setWindow_iopw_iopw (s : State) (v : WindowState) : (s.setWindow .iopw v).iopw = v := rfl

@[simp] theorem setWindow_iopw_apw (s : State) (v : WindowState) : (s.setWindow .iopw v).apw = s.apw := rfl

@[simp] theorem setWindow_apw_apw (s : State) (v : WindowState) : (s.setWindow .apw v).apw = v := rfl

@[simp] theorem setWindow_apw_iopw (s : State) (v : WindowState) : (s.setWindow .apw v).iopw = s.iopw := rfl

@[simp] theorem window_iopw (s : State) : s.window .iopw = s.iopw := rfl

@[simp] theorem window_apw (s : State) : s.window .apw = s.apw := rfl

@[simp] theorem diag_cfg (d : Diag) (s : State) : (diag d s).cfg = s.cfg := rfl

@[simp] theorem diag_iop (d : Diag) (s : State) : (diag d s).iop = s.iop := rfl

@[simp] theorem diag_ap (d : Diag) (s : State) : (diag d s).ap = s.ap := rfl

@[simp] theorem diag_iopw (d : Diag) (s : State) : (diag d s).iopw = s.iopw := rfl

@[simp] theorem diag_apw (d : Diag) (s : State) : (diag d s).apw = s.apw := rfl

@[simp] theorem diag_runState (d : Diag) (s : State) : (diag d s).runState = s.runState := rfl

@[simp] theorem diag_cpuCtrl (d : Diag) (s : State) : (diag d s).cpuCtrl = s.cpuCtrl := rfl

@[simp] theorem diag_ep0Status (d : Diag) (s : State) : (diag d s).ep0Status = s.ep0Status := rfl

@[simp] theorem diag_rollcallQ (d : Diag) (s : State) : (diag d s).rollcallQ = s.rollcallQ := rfl

@[simp] theorem diag_inputs (d : Diag) (s : State) : (diag d s).inputs = s.inputs := rfl

@[simp] theorem diag_replies (d : Diag) (s : State) : (diag d s).replies = s.replies := rfl

@[simp] theorem diag_result (d : Diag) (s : State) : (diag d s).result = s.result := rfl

@[simp] theorem diag_freeIdx (d : Diag) (s : State) : (diag d s).freeIdx = s.freeIdx := rfl

@[simp] theorem diag_live (d : Diag) (s : State) : (diag d s).live = s.live := rfl

@[simp] theorem diag_trace (d : Diag) (s : State) : (diag d s).trace = s.trace ++ [.diag d] := rfl

@[simp] theorem diag_queue (d : Diag) (s : State) (q : QId) : (diag d s).queue q = s.queue q := by cases q <;> rfl

@[simp] theorem diag_window (d : Diag) (s : State) (w : Win) : (diag d s).window w = s.window w := by cases w <;> rfl

@[simp] theorem give_cfg (r : Result) (s : State) : (give r s).cfg = s.cfg := rfl

@[simp] theorem give_iop (r : Result) (s : State) : (give r s).iop = s.iop := rfl

@[simp] theorem give_ap (r : Result) (s : State) : (give r s).ap = s.ap := rfl

@[simp] theorem give_iopw (r : Result) (s : State) : (give r s).iopw = s.iopw := rfl

@[simp] theorem give_apw (r : Result) (s : State) : (give r s).apw = s.apw := rfl

@[simp] theorem give_runState (r : Result) (s : State) : (give r s).runState = s.runState := rfl

@[simp] theorem give_cpuCtrl (r : Result) (s : State) : (give r s).cpuCtrl = s.cpuCtrl := rfl

@[simp] theorem give_ep0Status (r : Result) (s : State) : (give r s).ep0Status = s.ep0Status := rfl

@[simp] theorem give_rollcallQ (r : Result) (s : State) : (give r s).rollcallQ = s.rollcallQ := rfl

@[simp] theorem give_inputs (r : Result) (s : State) : (give r s).inputs = s.inputs := rfl

@[simp] theorem give_replies (r : Result) (s : State) : (give r s).replies = s.replies := rfl

@[simp] theorem give_trace (r : Result) (s : State) : (give r s).trace = s.trace := rfl

@[simp] theorem give_freeIdx (r : Result) (s : State) : (give r s).freeIdx = s.freeIdx := rfl

@[simp] theorem give_live (r : Result) (s : State) : (give r s).live = s.live := rfl

@[simp] theorem give_result (r : Result) (s : State) : (give r s).result = r := rfl

@[simp] theorem give_queue (r : Result) (s : State) (q : QId) : (give r s).queue q = s.queue q := by cases q <;> rfl

@[simp] theorem give_window (r : Result) (s : State) (w : Win) : (give r s).window w = s.window w := by cases w <;> rfl

@[simp] theorem begin_cfg (rest : List Request) (s : State) : (begin rest s).cfg = s.cfg := rfl

@[simp] theorem begin_iop (rest : List Request) (s : State) : (begin rest s).iop = s.iop := rfl

@[simp] theorem begin_ap (rest : List Request) (s : State) : (begin rest s).ap = s.ap := rfl

@[simp] theorem begin_iopw (rest : List Request) (s : State) : (begin rest s).iopw = s.iopw := rfl

@[simp] theorem begin_apw (rest : List Request) (s : State) : (begin rest s).apw = s.apw := rfl

@[simp] theorem begin_runState (rest : List Request) (s : State) : (begin rest s).runState = s.runState := rfl

@[simp] theorem begin_cpuCtrl (rest : List Request) (s : State) : (begin rest s).cpuCtrl = s.cpuCtrl := rfl

@[simp] theorem begin_ep0Status (rest : List Request) (s : State) : (begin rest s).ep0Status = s.ep0Status := rfl

@[simp] theorem begin_rollcallQ (rest : List Request) (s : State) : (begin rest s).rollcallQ = s.rollcallQ := rfl

@[simp] theorem begin_replies (rest : List Request) (s : State) : (begin rest s).replies = s.replies := rfl

@[simp] theorem begin_trace (rest : List Request) (s : State) : (begin rest s).trace = s.trace := rfl

@[simp] theorem begin_freeIdx (rest : List Request) (s : State) : (begin rest s).freeIdx = s.freeIdx := rfl

@[simp] theorem begin_live (rest : List Request) (s : State) : (begin rest s).live = s.live := rfl

@[simp] theorem begin_queue (rest : List Request) (s : State) (q : QId) : (begin rest s).queue q = s.queue q := by cases q <;> rfl

@[simp] theorem retire_cfg (i : Instr) (s : State) : (retire i s).cfg = s.cfg := rfl

@[simp] theorem retire_iop (i : Instr) (s : State) : (retire i s).iop = s.iop := rfl

@[simp] theorem retire_ap (i : Instr) (s : State) : (retire i s).ap = s.ap := rfl

@[simp] theorem retire_iopw (i : Instr) (s : State) : (retire i s).iopw = s.iopw := rfl

@[simp] theorem retire_apw (i : Instr) (s : State) : (retire i s).apw = s.apw := rfl

@[simp] theorem retire_runState (i : Instr) (s : State) : (retire i s).runState = s.runState := rfl

@[simp] theorem retire_cpuCtrl (i : Instr) (s : State) : (retire i s).cpuCtrl = s.cpuCtrl := rfl

@[simp] theorem retire_ep0Status (i : Instr) (s : State) : (retire i s).ep0Status = s.ep0Status := rfl

@[simp] theorem retire_rollcallQ (i : Instr) (s : State) : (retire i s).rollcallQ = s.rollcallQ := rfl

@[simp] theorem retire_inputs (i : Instr) (s : State) : (retire i s).inputs = s.inputs := rfl

@[simp] theorem retire_replies (i : Instr) (s : State) : (retire i s).replies = s.replies := rfl

@[simp] theorem retire_trace (i : Instr) (s : State) : (retire i s).trace = s.trace := rfl

@[simp] theorem retire_result (i : Instr) (s : State) : (retire i s).result = s.result := rfl

@[simp] theorem retire_freeIdx (i : Instr) (s : State) : (retire i s).freeIdx = s.freeIdx := rfl

@[simp] theorem retire_queue (i : Instr) (s : State) (q : QId) : (retire i s).queue q = s.queue q := by cases q <;> rfl

@[simp] theorem runApCallback_cfg (s : State) : (runApCallback s).cfg = s.cfg := rfl

@[simp] theorem runApCallback_iop (s : State) : (runApCallback s).iop = s.iop := rfl

@[simp] theorem runApCallback_iopw (s : State) : (runApCallback s).iopw = s.iopw := rfl

@[simp] theorem runApCallback_apw (s : State) : (runApCallback s).apw = s.apw := rfl

@[simp] theorem runApCallback_runState (s : State) : (runApCallback s).runState = s.runState := rfl

@[simp] theorem runApCallback_cpuCtrl (s : State) : (runApCallback s).cpuCtrl = s.cpuCtrl := rfl

@[simp] theorem runApCallback_ep0Status (s : State) : (runApCallback s).ep0Status = s.ep0Status := rfl

@[simp] theorem runApCallback_rollcallQ (s : State) : (runApCallback s).rollcallQ = s.rollcallQ := rfl

@[simp] theorem runApCallback_inputs (s : State) : (runApCallback s).inputs = s.inputs := rfl

@[simp] theorem runApCallback_replies (s : State) : (runApCallback s).replies = s.replies := rfl

@[simp] theorem runApCallback_trace (s : State) : (runApCallback s).trace = s.trace := rfl

@[simp] theorem runApCallback_result (s : State) : (runApCallback s).result = s.result := rfl

@[simp] theorem runApCallback_freeIdx (s : State) : (runApCallback s).freeIdx = s.freeIdx := rfl

@[simp] theorem runApCallback_live (s : State) : (runApCallback s).live = s.live := rfl

@[simp] theorem runApCallback_ap (s : State) : (runApCallback s).ap = { s.ap with bhPending := false } := rfl

@[simp] theorem runApCallback_window (s : State) (w : Win) : (runApCallback s).window w = s.window w := by cases w <;> rfl

@[simp] theorem stage_setStage_self (x : WindowState) (q : QId) (v : Slot) : (x.setStage q v).stage q = v := by cases q <;> rfl

@[simp] theorem cache_setCache_self (x : WindowState) (q : QId) (v : Slot) : (x.setCache q v).cache q = v := by cases q <;> rfl

@[simp] theorem setStage_intMask (x : WindowState) (q : QId) (v : Slot) : (x.setStage q v).intMask = x.intMask := by cases q <;> rfl

@[simp] theorem setCache_intMask (x : WindowState) (q : QId) (v : Slot) : (x.setCache q v).intMask = x.intMask := by cases q <;> rfl

@[simp] theorem setStage_cache (x : WindowState) (q q' : QId) (v : Slot) : (x.setStage q v).cache q' = x.cache q' := by cases q <;> cases q' <;> rfl

@[simp] theorem setCache_stage (x : WindowState) (q q' : QId) (v : Slot) : (x.setCache q v).stage q' = x.stage q' := by cases q <;> cases q' <;> rfl

end Sys2Proof.Machine
end

