-- ==== Sys2Proof/Laws/Ops.lean ====
section
/-! SUPPORT. One specification for each shared operation: everything it can do, so that a proof cites it
and unfolds nothing. -/

namespace Sys2Proof.Machine

/-! ### Transport -/

/-- A send to an enabled direction pushes (40_mailbox_ops.md R100). -/
theorem mbSend_of_enabled {q : QId} {s : State} (m : Message) (h : (s.queue q).en = true) :
    mbSend q m s = s.setQueue q
      { s.queue q with
        inbox := (s.queue q).inbox ++ [m]
        count := (s.queue q).count + 1
        bhPending := (s.queue q).bhPending || bhRegistered s.cfg q } := by
  simp [mbSend, h]

/-- A send to a disabled direction is only logged (40_mailbox_ops.md R100). -/
theorem mbSend_of_disabled {q : QId} {s : State} (m : Message) (h : (s.queue q).en = false) :
    mbSend q m s = diag (.disabledSend q) s := by
  simp [mbSend, h]

theorem mbRecv_of_disabled {q : QId} {s : State} (h : (s.queue q).en = false) :
    mbRecv q s = (none, diag (.disabledRecv q) s) := by
  simp [mbRecv, h]

theorem mbRecv_of_latched {q : QId} {s : State} (h : (s.queue q).en = true)
    (hu : (s.queue q).underflow = true) : mbRecv q s = (none, s) := by
  simp [mbRecv, h, hu]

theorem mbRecv_of_empty {q : QId} {s : State} (h : (s.queue q).en = true)
    (hu : (s.queue q).underflow = false) (hc : (s.queue q).count = 0) :
    mbRecv q s
      = (none, diag (.underflow q) (s.setQueue q { s.queue q with underflow := true })) := by
  simp [mbRecv, h, hu, hc]

theorem mbRecv_of_message {q : QId} {s : State} {m : Message} {rest : List Message}
    (h : (s.queue q).en = true) (hu : (s.queue q).underflow = false) (hc : (s.queue q).count ≠ 0)
    (hi : (s.queue q).inbox = m :: rest) :
    mbRecv q s
      = (some (stampDepth s.cfg (s.queue q).count m),
          s.setQueue q { s.queue q with inbox := rest, count := (s.queue q).count - 1 }) := by
  simp [mbRecv, h, hu, hc, hi]

/-- Everything a receive can do (40_mailbox_ops.md R102). -/
theorem mbRecv_cases (q : QId) (s : State) :
    ((s.queue q).en = false ∧ mbRecv q s = (none, diag (.disabledRecv q) s))
    ∨ ((s.queue q).en = true ∧ (s.queue q).underflow = true ∧ mbRecv q s = (none, s))
    ∨ ((s.queue q).en = true ∧ (s.queue q).underflow = false ∧ (s.queue q).count = 0
      ∧ mbRecv q s = (none, diag (.underflow q) (s.setQueue q { s.queue q with underflow := true })))
    ∨ ((s.queue q).en = true ∧ (s.queue q).underflow = false ∧ (s.queue q).count ≠ 0
      ∧ (s.queue q).inbox = [] ∧ mbRecv q s = (none, s))
    ∨ (∃ m rest, (s.queue q).en = true ∧ (s.queue q).underflow = false ∧ (s.queue q).count ≠ 0
      ∧ (s.queue q).inbox = m :: rest
      ∧ mbRecv q s
        = (some (stampDepth s.cfg (s.queue q).count m),
            s.setQueue q { s.queue q with inbox := rest, count := (s.queue q).count - 1 })) := by
  cases he : (s.queue q).en
  · exact .inl ⟨rfl, mbRecv_of_disabled he⟩
  cases hu : (s.queue q).underflow
  · by_cases hc : (s.queue q).count = 0
    · exact .inr (.inr (.inl ⟨rfl, rfl, hc, mbRecv_of_empty he hu hc⟩))
    cases hi : (s.queue q).inbox with
    | nil => exact .inr (.inr (.inr (.inl ⟨rfl, rfl, hc, rfl, by simp [mbRecv, he, hu, hc, hi]⟩)))
    | cons m rest =>
      exact .inr (.inr (.inr (.inr ⟨m, rest, rfl, rfl, hc, rfl, mbRecv_of_message he hu hc hi⟩)))
  · exact .inr (.inl ⟨rfl, rfl, mbRecv_of_latched he hu⟩)

/-- What a queue operation leaves alone outside its queue and the trace. -/
structure QueueFrame (q : QId) (s t : State) : Prop where
  cfg : t.cfg = s.cfg
  other : ∀ q', q' ≠ q → t.queue q' = s.queue q'
  iopw : t.iopw = s.iopw
  apw : t.apw = s.apw
  runState : t.runState = s.runState
  cpuCtrl : t.cpuCtrl = s.cpuCtrl
  ep0Status : t.ep0Status = s.ep0Status
  rollcallQ : t.rollcallQ = s.rollcallQ
  inputs : t.inputs = s.inputs
  replies : t.replies = s.replies
  result : t.result = s.result
  freeIdx : t.freeIdx = s.freeIdx
  live : t.live = s.live
  en : (t.queue q).en = (s.queue q).en
  trace : s.trace <+: t.trace

theorem QueueFrame.refl (q : QId) (s : State) : QueueFrame q s s where
  cfg := rfl
  other := fun _ _ => rfl
  iopw := rfl
  apw := rfl
  runState := rfl
  cpuCtrl := rfl
  ep0Status := rfl
  rollcallQ := rfl
  inputs := rfl
  replies := rfl
  result := rfl
  freeIdx := rfl
  live := rfl
  en := rfl
  trace := List.prefix_refl _

theorem QueueFrame.of_setQueue {q : QId} {s : State} {v : QueueState} (h : v.en = (s.queue q).en) :
    QueueFrame q s (s.setQueue q v) where
  cfg := by simp
  other := fun _ hq => queue_setQueue_ne s v hq
  iopw := by simp
  apw := by simp
  runState := by simp
  cpuCtrl := by simp
  ep0Status := by simp
  rollcallQ := by simp
  inputs := by simp
  replies := by simp
  result := by simp
  freeIdx := by simp
  live := by simp
  en := by simp [h]
  trace := by simp

theorem QueueFrame.diag {q : QId} {s t : State} (h : QueueFrame q s t) (d : Diag) :
    QueueFrame q s (diag d t) where
  cfg := h.cfg
  other := by simpa using h.other
  iopw := h.iopw
  apw := h.apw
  runState := h.runState
  cpuCtrl := h.cpuCtrl
  ep0Status := h.ep0Status
  rollcallQ := h.rollcallQ
  inputs := h.inputs
  replies := h.replies
  result := h.result
  freeIdx := h.freeIdx
  live := h.live
  en := by simpa using h.en
  trace := h.trace.trans (List.prefix_append _ _)

theorem mbSend_frame (q : QId) (m : Message) (s : State) : QueueFrame q s (mbSend q m s) := by
  cases h : (s.queue q).en
  · simpa [mbSend_of_disabled m h] using (QueueFrame.refl q s).diag (.disabledSend q)
  · simpa [mbSend_of_enabled m h] using QueueFrame.of_setQueue (q := q) (s := s) (by simp)

theorem mbRecv_frame (q : QId) (s : State) : QueueFrame q s (mbRecv q s).2 := by
  rcases mbRecv_cases q s with ⟨_, h⟩ | ⟨_, _, h⟩ | ⟨_, _, _, h⟩ | ⟨_, _, _, _, h⟩ | ⟨m, rest, _, _, _, _, h⟩
    <;> rw [h]
  · exact (QueueFrame.refl q s).diag _
  · exact QueueFrame.refl q s
  · exact (QueueFrame.of_setQueue (v := { s.queue q with underflow := true }) rfl).diag _
  · exact QueueFrame.refl q s
  · exact QueueFrame.of_setQueue rfl

/-- A send keeps the latch and grows its queue by at most one message, the count with it. -/
theorem mbSend_queue (q : QId) (m : Message) (s : State) :
    ((mbSend q m s).queue q).underflow = (s.queue q).underflow
    ∧ (s.queue q).inbox <+: ((mbSend q m s).queue q).inbox
    ∧ ((mbSend q m s).queue q).count + (s.queue q).inbox.length
      = (s.queue q).count + ((mbSend q m s).queue q).inbox.length := by
  cases h : (s.queue q).en
  · simp [mbSend_of_disabled m h]
  · simp [mbSend_of_enabled m h]; omega

/-- A send makes the callback pending exactly when it is registered and the push happened
(10_state.md R24). -/
theorem mbSend_bhPending (q : QId) (m : Message) (s : State) :
    ((mbSend q m s).queue q).bhPending
      = ((s.queue q).bhPending
        || (bhRegistered s.cfg q
          && decide ((s.queue q).inbox.length < ((mbSend q m s).queue q).inbox.length))) := by
  cases h : (s.queue q).en
  · simp [mbSend_of_disabled m h]
  · simp [mbSend_of_enabled m h]

/-- A receive leaves the pending flag alone. -/
theorem mbRecv_bhPending (q : QId) (s : State) :
    ((mbRecv q s).2.queue q).bhPending = (s.queue q).bhPending := by
  rcases mbRecv_cases q s with ⟨_, h⟩ | ⟨_, _, h⟩ | ⟨_, _, _, h⟩ | ⟨_, _, _, _, h⟩ | ⟨m, rest, _, _, _, _, h⟩
    <;> simp [h]

/-- A receive never clears the latch, and it removes what its count loses. -/
theorem mbRecv_queue (q : QId) (s : State) :
    ((s.queue q).underflow = true → ((mbRecv q s).2.queue q).underflow = true)
    ∧ ((s.queue q).underflow = true → ((mbRecv q s).2.queue q).inbox = (s.queue q).inbox)
    ∧ ((s.queue q).count = (s.queue q).inbox.length →
      ((mbRecv q s).2.queue q).count = ((mbRecv q s).2.queue q).inbox.length) := by
  rcases mbRecv_cases q s with ⟨_, h⟩ | ⟨_, _, h⟩ | ⟨_, hu, _, h⟩ | ⟨_, hu, _, _, h⟩ | ⟨m, rest, _, hu, _, hi, h⟩
    <;> rw [h] <;> simp_all

/-! ### The engine -/

/-- Everything an operation of the engine other than a receive can do: it sends to queue AP, moves its
protocol state, uses up replies and appends to the trace. -/
structure EngineFrame (s t : State) : Prop where
  cfg : t.cfg = s.cfg
  iop : t.iop = s.iop
  iopw : t.iopw = s.iopw
  apw : t.apw = s.apw
  runState : t.runState = s.runState
  cpuCtrl : t.cpuCtrl = s.cpuCtrl
  inputs : t.inputs = s.inputs
  result : t.result = s.result
  freeIdx : t.freeIdx = s.freeIdx
  live : t.live = s.live
  apEn : t.ap.en = s.ap.en
  apUnderflow : t.ap.underflow = s.ap.underflow
  apInbox : s.ap.inbox <+: t.ap.inbox
  apCount : t.ap.count + s.ap.inbox.length = s.ap.count + t.ap.inbox.length
  apPending : t.ap.bhPending
    = (s.ap.bhPending || (s.cfg.bhRegisteredAp && decide (s.ap.inbox.length < t.ap.inbox.length)))
  replies : t.replies <:+ s.replies
  trace : s.trace <+: t.trace
  rollcall : (s.ep0Status ≠ .waitRollcall → s.rollcallQ = []) →
    t.ep0Status ≠ .waitRollcall → t.rollcallQ = []

theorem EngineFrame.refl (s : State) : EngineFrame s s where
  cfg := rfl
  iop := rfl
  iopw := rfl
  apw := rfl
  runState := rfl
  cpuCtrl := rfl
  inputs := rfl
  result := rfl
  freeIdx := rfl
  live := rfl
  apEn := rfl
  apUnderflow := rfl
  apInbox := List.prefix_refl _
  apCount := rfl
  apPending := by simp
  replies := List.suffix_refl _
  trace := List.prefix_refl _
  rollcall := id

theorem EngineFrame.trans {s t u : State} (h : EngineFrame s t) (k : EngineFrame t u) :
    EngineFrame s u where
  cfg := k.cfg.trans h.cfg
  iop := k.iop.trans h.iop
  iopw := k.iopw.trans h.iopw
  apw := k.apw.trans h.apw
  runState := k.runState.trans h.runState
  cpuCtrl := k.cpuCtrl.trans h.cpuCtrl
  inputs := k.inputs.trans h.inputs
  result := k.result.trans h.result
  freeIdx := k.freeIdx.trans h.freeIdx
  live := k.live.trans h.live
  apEn := k.apEn.trans h.apEn
  apUnderflow := k.apUnderflow.trans h.apUnderflow
  apInbox := h.apInbox.trans k.apInbox
  apCount := by have := h.apCount; have := k.apCount; omega
  apPending := by
    have hl := h.apInbox.length_le
    have kl := k.apInbox.length_le
    rw [k.apPending, h.apPending, h.cfg]
    cases s.ap.bhPending <;> cases s.cfg.bhRegisteredAp <;> simp
    grind
  replies := k.replies.trans h.replies
  trace := h.trace.trans k.trace
  rollcall := fun r => k.rollcall (h.rollcall r)

theorem diag_engine (d : Diag) (s : State) : EngineFrame s (diag d s) :=
  { EngineFrame.refl s with trace := List.prefix_append _ _ }

/-- A send to the AP leaves the engine's own state alone. -/
theorem sendToAp_engine (m : Message) (s : State) : EngineFrame s (sendToAp m s) where
  cfg := (mbSend_frame .ap m s).cfg
  iop := (mbSend_frame .ap m s).other .iop (by decide)
  iopw := (mbSend_frame .ap m s).iopw
  apw := (mbSend_frame .ap m s).apw
  runState := (mbSend_frame .ap m s).runState
  cpuCtrl := (mbSend_frame .ap m s).cpuCtrl
  inputs := (mbSend_frame .ap m s).inputs
  result := (mbSend_frame .ap m s).result
  freeIdx := (mbSend_frame .ap m s).freeIdx
  live := (mbSend_frame .ap m s).live
  apEn := (mbSend_frame .ap m s).en
  apUnderflow := (mbSend_queue .ap m s).1
  apInbox := (mbSend_queue .ap m s).2.1
  apCount := (mbSend_queue .ap m s).2.2
  apPending := mbSend_bhPending .ap m s
  replies := by
    have h := (mbSend_frame .ap m s).replies
    rw [sendToAp, h]
  trace := (mbSend_frame .ap m s).trace
  rollcall := by
    have h := (mbSend_frame .ap m s).ep0Status
    have k := (mbSend_frame .ap m s).rollcallQ
    rw [sendToAp, h, k]
    exact id

theorem sendMgmt_engine (p : Payload) (s : State) : EngineFrame s (sendMgmt p s) := sendToAp_engine _ s

@[simp] theorem sendToAp_ep0Status (m : Message) (s : State) : (sendToAp m s).ep0Status = s.ep0Status :=
  (mbSend_frame .ap m s).ep0Status

@[simp] theorem sendToAp_rollcallQ (m : Message) (s : State) : (sendToAp m s).rollcallQ = s.rollcallQ :=
  (mbSend_frame .ap m s).rollcallQ

@[simp] theorem sendMgmt_ep0Status (p : Payload) (s : State) : (sendMgmt p s).ep0Status = s.ep0Status :=
  sendToAp_ep0Status _ s

@[simp] theorem sendMgmt_rollcallQ (p : Payload) (s : State) : (sendMgmt p s).rollcallQ = s.rollcallQ :=
  sendToAp_rollcallQ _ s

/-- `BUILD_ROLLCALL` ends with its terminal message, so its list is never empty (43_rtbuddy_engine.md
R206). -/
theorem buildRollcall_ne_nil (c : Config) : buildRollcall c ≠ [] := by simp [buildRollcall]

/-- A change of the engine's protocol state only. -/
theorem EngineFrame.of_protocol {s : State} (e : Ep0Status) (r : List Payload)
    (h : e ≠ .waitRollcall → r = []) : EngineFrame s { s with ep0Status := e, rollcallQ := r } :=
  { EngineFrame.refl s with rollcall := fun _ => h }

/-- From any other state than `IDLE` a start event is only logged (43_rtbuddy_engine.md R200). -/
theorem startOrWakeup_of_busy {s : State} (h : s.ep0Status ≠ .idle) :
    startOrWakeup s = diag (.startNotIdle s.ep0Status) s := by
  simp [startOrWakeup, h]

theorem startOrWakeup_of_idle {s : State} (h : s.ep0Status = .idle) :
    startOrWakeup s = { sendMgmt (helloPayload s.cfg) s with ep0Status := .waitHello } := by
  simp [startOrWakeup, h]

theorem startOrWakeup_engine (s : State) : EngineFrame s (startOrWakeup s) := by
  by_cases h : s.ep0Status = .idle
  · rw [startOrWakeup_of_idle h]
    exact { sendMgmt_engine (helloPayload s.cfg) s with
      rollcall := fun r _ => by simpa using r (by simp [h]) }
  · rw [startOrWakeup_of_busy h]
    exact diag_engine _ s

theorem startOrWakeup_ep0Status (s : State) :
    (startOrWakeup s).ep0Status = s.ep0Status
    ∨ (s.ep0Status = .idle ∧ (startOrWakeup s).ep0Status = .waitHello) := by
  by_cases h : s.ep0Status = .idle
  · simp [startOrWakeup_of_idle h, h]
  · simp [startOrWakeup_of_busy h]

theorem inHelloAck_of_other {p : Payload} {s : State} (h : s.ep0Status ≠ .waitHello) :
    inHelloAck p s = diag (.desync (mgmtType s.cfg p) s.ep0Status) s := by
  simp [inHelloAck, h]

/-- In `WAIT_HELLO` the head of the rollcall list is sent and the rest held (43_rtbuddy_engine.md R204). -/
theorem inHelloAck_of_waitHello {s : State} (p : Payload) (h : s.ep0Status = .waitHello) :
    ∃ first rest, buildRollcall s.cfg = first :: rest
      ∧ inHelloAck p s = sendMgmt first { s with ep0Status := .waitRollcall, rollcallQ := rest } := by
  cases hb : buildRollcall s.cfg with
  | nil => exact absurd hb (buildRollcall_ne_nil _)
  | cons first rest => exact ⟨first, rest, rfl, by simp [inHelloAck, h, hb]⟩

theorem inHelloAck_engine (p : Payload) (s : State) : EngineFrame s (inHelloAck p s) := by
  by_cases h : s.ep0Status = .waitHello
  · obtain ⟨first, rest, _, he⟩ := inHelloAck_of_waitHello p h
    rw [he]
    exact (EngineFrame.of_protocol .waitRollcall rest (by simp)).trans (sendMgmt_engine _ _)
  · rw [inHelloAck_of_other h]
    exact diag_engine _ s

theorem inHelloAck_ep0Status (p : Payload) (s : State) :
    (inHelloAck p s).ep0Status = s.ep0Status
    ∨ (s.ep0Status = .waitHello ∧ (inHelloAck p s).ep0Status = .waitRollcall) := by
  by_cases h : s.ep0Status = .waitHello
  · obtain ⟨first, rest, _, he⟩ := inHelloAck_of_waitHello p h
    simp [he, h]
  · simp [inHelloAck_of_other h]

theorem inRollcall_of_other {p : Payload} {s : State} (h : s.ep0Status ≠ .waitRollcall) :
    inRollcall p s = diag (.desync (mgmtType s.cfg p) s.ep0Status) s := by
  simp [inRollcall, h]

theorem inRollcall_of_cons {s : State} {next : Payload} {rest : List Payload} (p : Payload)
    (h : s.ep0Status = .waitRollcall) (hr : s.rollcallQ = next :: rest) :
    inRollcall p s = sendMgmt next { s with rollcallQ := rest } := by
  simp [inRollcall, h, hr]

theorem inRollcall_of_nil {s : State} (p : Payload) (h : s.ep0Status = .waitRollcall)
    (hr : s.rollcallQ = []) :
    inRollcall p s = { sendMgmt (powerStateAckPayload s.cfg) s with ep0Status := .idle } := by
  simp [inRollcall, h, hr]

theorem inRollcall_engine (p : Payload) (s : State) : EngineFrame s (inRollcall p s) := by
  by_cases h : s.ep0Status = .waitRollcall
  · cases hr : s.rollcallQ with
    | nil =>
      rw [inRollcall_of_nil p h hr]
      exact { sendMgmt_engine (powerStateAckPayload s.cfg) s with rollcall := fun _ _ => by simp [hr] }
    | cons next rest =>
      rw [inRollcall_of_cons p h hr]
      exact EngineFrame.trans (t := { s with rollcallQ := rest })
        { EngineFrame.refl s with rollcall := fun _ hw => absurd h hw } (sendMgmt_engine _ _)
  · rw [inRollcall_of_other h]
    exact diag_engine _ s

theorem inRollcall_ep0Status (p : Payload) (s : State) :
    (inRollcall p s).ep0Status = s.ep0Status
    ∨ (s.ep0Status = .waitRollcall ∧ s.rollcallQ = [] ∧ (inRollcall p s).ep0Status = .idle) := by
  by_cases h : s.ep0Status = .waitRollcall
  · cases hr : s.rollcallQ with
    | nil => simp [inRollcall_of_nil p h hr, h]
    | cons next rest => simp [inRollcall_of_cons p h hr]
  · simp [inRollcall_of_other h]

theorem inPing_engine (p : Payload) (s : State) : EngineFrame s (inPing p s) := sendMgmt_engine _ s

@[simp] theorem inPing_ep0Status (p : Payload) (s : State) : (inPing p s).ep0Status = s.ep0Status :=
  sendMgmt_ep0Status _ s

theorem inDropped_engine (p : Payload) (s : State) : EngineFrame s (inDropped p s) := diag_engine _ s

@[simp] theorem inDropped_ep0Status (p : Payload) (s : State) : (inDropped p s).ep0Status = s.ep0Status :=
  rfl

/-- The four reactions of management dispatch (43_rtbuddy_engine.md R216). -/
theorem mgmt_cases (p : Payload) (s : State) :
    (mgmtType s.cfg p = 2#4 ∧ mgmt p s = inHelloAck p s)
    ∨ (mgmtType s.cfg p = 8#4 ∧ mgmt p s = inRollcall p s)
    ∨ (mgmtType s.cfg p = 3#4 ∧ mgmt p s = inPing p s)
    ∨ (mgmtType s.cfg p ≠ 2#4 ∧ mgmtType s.cfg p ≠ 8#4 ∧ mgmtType s.cfg p ≠ 3#4
      ∧ mgmt p s = inDropped p s) := by
  unfold mgmt
  generalize mgmtType s.cfg p = t
  split
  · next h => exact .inl ⟨BitVec.eq_of_toNat_eq h, rfl⟩
  · next h => exact .inr (.inl ⟨BitVec.eq_of_toNat_eq h, rfl⟩)
  · next h => exact .inr (.inr (.inl ⟨BitVec.eq_of_toNat_eq h, rfl⟩))
  · next h2 h8 h3 =>
    refine .inr (.inr (.inr ⟨?_, ?_, ?_, rfl⟩)) <;> rintro rfl
    · exact h2 rfl
    · exact h8 rfl
    · exact h3 rfl

theorem mgmt_engine (p : Payload) (s : State) : EngineFrame s (mgmt p s) := by
  rcases mgmt_cases p s with ⟨_, h⟩ | ⟨_, h⟩ | ⟨_, h⟩ | ⟨_, _, _, h⟩ <;> rw [h]
  · exact inHelloAck_engine p s
  · exact inRollcall_engine p s
  · exact inPing_engine p s
  · exact inDropped_engine p s

/-! ### Consumer sends, replies and routing -/

theorem sendControl_ok {id : Word} {p : Payload} {s t : State} (h : sendControl id p s = .ok t) :
    id.toNat < userEpBase ∧ t = sendToAp ⟨p, id, 0⟩ s := by
  unfold sendControl at h
  split at h
  · next hi => exact ⟨hi, (Except.ok.inj h).symm⟩
  · cases h

theorem sendUser_ok {id : Word} {p : Payload} {s t : State} (h : sendUser id p s = .ok t) :
    id.toNat + userEpBase ≤ maxWire ∧ t = sendToAp ⟨p, id + BitVec.ofNat 32 userEpBase, 0⟩ s := by
  unfold sendUser at h
  split at h
  · next hi => exact ⟨hi, (Except.ok.inj h).symm⟩
  · cases h

theorem performReply_ok {r : Reply} {s t : State} (h : performReply r s = .ok t) :
    ∃ m, t = sendToAp m s := by
  cases r with
  | control id p => exact ⟨_, (sendControl_ok h).2⟩
  | user id p => exact ⟨_, (sendUser_ok h).2⟩

theorem performReplies_cons (r : Reply) (rs : List Reply) (s : State) :
    performReplies (r :: rs) s
      = (match performReply r s with
        | .error e => .error e
        | .ok s' => performReplies rs s') := rfl

/-- The replies of a handler only send to queue AP. -/
theorem performReplies_ok {rs : List Reply} {s t : State} (h : performReplies rs s = .ok t) :
    EngineFrame s t ∧ t.ep0Status = s.ep0Status ∧ t.rollcallQ = s.rollcallQ ∧ t.replies = s.replies := by
  induction rs generalizing s with
  | nil => cases h; exact ⟨EngineFrame.refl _, rfl, rfl, rfl⟩
  | cons r rs ih =>
    rw [performReplies_cons] at h
    cases hr : performReply r s with
    | error e => simp [hr] at h
    | ok s' =>
      obtain ⟨m, rfl⟩ := performReply_ok hr
      obtain ⟨hf, he, hq, hp⟩ := ih (by simpa [hr] using h)
      exact ⟨(sendToAp_engine m s).trans hf, by simp [he], by simp [hq],
        hp.trans (mbSend_frame .ap m s).replies⟩

/-- A delivery appends to the trace, uses up one list of replies and performs it. -/
theorem deliverTo_ok {e : Endpoint} {m : Message} {s t : State} (h : deliverTo e m s = .ok t) :
    EngineFrame s t ∧ t.ep0Status = s.ep0Status ∧ t.rollcallQ = s.rollcallQ
      ∧ t.replies = s.replies.tail := by
  obtain ⟨hf, he, hq, hp⟩ := performReplies_ok h
  refine ⟨EngineFrame.trans ?_ hf, he, hq, hp⟩
  exact { EngineFrame.refl s with
    replies := List.tail_suffix _
    trace := List.prefix_append _ _ }

/-- Everything routing can do (43_rtbuddy_engine.md R222, R224). -/
theorem route_ok {m : Message} {s t : State} (h : route m s = .ok t) : EngineFrame s t := by
  unfold route at h
  split at h
  · cases h; exact mgmt_engine _ s
  · split at h
    · exact (deliverTo_ok h).1
    · cases h; exact diag_engine _ s

/-- Routing of a message that is not for the management endpoint leaves the protocol state alone. -/
theorem route_ok_protocol {m : Message} {s t : State} (hm : m.endpoint ≠ epMgmt)
    (h : route m s = .ok t) : t.ep0Status = s.ep0Status ∧ t.rollcallQ = s.rollcallQ := by
  unfold route at h
  simp only [hm, if_false] at h
  split at h
  · obtain ⟨_, he, hq, _⟩ := deliverTo_ok h
    exact ⟨he, hq⟩
  · cases h; exact ⟨rfl, rfl⟩

/-! ### The dispatch loop -/

/-- Everything the dispatch loop can do to the state outside queue IOP is what the engine does; queue IOP
only loses messages. -/
structure LoopFrame (s t : State) : Prop where
  rest : EngineFrame { s with iop := t.iop } t
  en : t.iop.en = s.iop.en
  underflow : t.iop.underflow = s.iop.underflow
  bhPending : t.iop.bhPending = s.iop.bhPending
  inbox : t.iop.inbox <:+ s.iop.inbox
  count : s.iop.count = s.iop.inbox.length → t.iop.count = t.iop.inbox.length

theorem LoopFrame.refl (s : State) : LoopFrame s s where
  rest := EngineFrame.refl s
  en := rfl
  underflow := rfl
  bhPending := rfl
  inbox := List.suffix_refl _
  count := id

theorem LoopFrame.of_engine {s t : State} (h : EngineFrame s t) : LoopFrame s t where
  rest := by rw [h.iop]; exact h
  en := by rw [h.iop]
  underflow := by rw [h.iop]
  bhPending := by rw [h.iop]
  inbox := by rw [h.iop]
  count := by rw [h.iop]; exact id

theorem LoopFrame.trans {s t u : State} (h : LoopFrame s t) (k : LoopFrame t u) : LoopFrame s u where
  rest :=
    EngineFrame.trans (t := { t with iop := u.iop })
      { h.rest with iop := rfl } k.rest
  en := k.en.trans h.en
  underflow := k.underflow.trans h.underflow
  bhPending := k.bhPending.trans h.bhPending
  inbox := k.inbox.trans h.inbox
  count := fun hc => k.count (h.count hc)

/-- A pop under the loop guard (43_rtbuddy_engine.md R220). -/
theorem receiveFromAp_of_guard {s : State} (h : loopGuard s = true) :
    (s.iop.inbox = [] ∧ receiveFromAp s = (none, s))
    ∨ ∃ m rest, s.iop.inbox = m :: rest
      ∧ receiveFromAp s
        = (some (stampDepth s.cfg s.iop.count m),
            { s with iop := { s.iop with inbox := rest, count := s.iop.count - 1 } }) := by
  simp only [loopGuard, Bool.and_eq_true, Bool.not_eq_true', bne_iff_ne] at h
  rcases mbRecv_cases .iop s with ⟨h1, _⟩ | ⟨_, h1, _⟩ | ⟨_, _, h1, _⟩ | ⟨_, _, _, hi, h1⟩ | ⟨m, rest, _, _, _, hi, h1⟩
  · simp_all
  · simp_all
  · simp_all
  · exact .inl ⟨hi, h1⟩
  · exact .inr ⟨m, rest, hi, h1⟩

theorem dispatchLoop_ok {n : Nat} {s t : State} (h : dispatchLoop n s = .ok t) : LoopFrame s t := by
  induction n generalizing s with
  | zero => cases h; exact LoopFrame.refl _
  | succ n ih =>
    unfold dispatchLoop at h
    split at h
    · next hg =>
      rcases receiveFromAp_of_guard hg with ⟨_, hr⟩ | ⟨m, rest, hi, hr⟩
      · rw [hr] at h
        cases h
        exact LoopFrame.refl _
      · rw [hr] at h
        dsimp only at h
        split at h
        · cases h
        · next u hu =>
          refine LoopFrame.trans ?_ ((LoopFrame.of_engine (route_ok hu)).trans (ih h))
          exact {
            rest := EngineFrame.refl _
            en := rfl
            underflow := rfl
            bhPending := rfl
            inbox := by simp [hi]
            count := by
              intro hc
              simp only [hi, List.length_cons] at hc
              simp [hc] }
    · cases h; exact LoopFrame.refl _

/-- A run of the callback (43_rtbuddy_engine.md R220). -/
theorem runCallback_ok {s t : State} (h : runCallback s = .ok t) :
    LoopFrame { s with iop := { s.iop with bhPending := false } } t := dispatchLoop_ok h

/-! ### Registration and outcomes -/

/-- A registration adds one entry and changes nothing else (43_rtbuddy_engine.md R190, R191). -/
theorem register_ok {wire h : Nat} {user : Bool} {s t : State} (hr : register wire h user s = .ok t) :
    s.live = false ∧ lookupEndpoint s.cfg.registry wire = none
      ∧ t = { s with cfg := { s.cfg with registry := insertEndpoint ⟨wire, h, user⟩ s.cfg.registry } } := by
  unfold register at hr
  split at hr
  · cases hr
  · next hl =>
    split at hr
    · cases hr
    · next hd => exact ⟨by simpa using hl, by simpa using hd, (Except.ok.inj hr).symm⟩

theorem registerControl_ok {id : Word} {h : Nat} {s t : State} (hr : registerControl id h s = .ok t) :
    (1 ≤ id.toNat ∧ id.toNat < userEpBase) ∧ register id.toNat h false s = .ok t := by
  unfold registerControl at hr
  split at hr
  · next hi => exact ⟨hi, hr⟩
  · cases hr

theorem registerUser_ok {id : Word} {h : Nat} {s t : State} (hr : registerUser id h s = .ok t) :
    id.toNat + userEpBase ≤ maxWire ∧ register (id.toNat + userEpBase) h true s = .ok t := by
  unfold registerUser at hr
  split at hr
  · next hi => exact ⟨hi, hr⟩
  · cases hr

theorem toOutcome_next {r : Except Refusal State} {t : State} (h : toOutcome r = .next t) : r = .ok t := by
  cases r with
  | ok s => cases h; rfl
  | error e => cases h

end Sys2Proof.Machine
end

