-- ==== Sys2Proof/Laws/Exec.lean ====
section
/-! SUPPORT. Everything an operation can do, once for all operations: an invariant over `exec` is a case
analysis of `Effect`. -/

namespace Sys2Proof.Machine

/-- What an operation that answers a next state has done to the state. -/
inductive Effect (i : Instr) (s : State) : State → Prop
  /-- A value was returned and nothing else changed. -/
  | observe (r : Result) : Effect i s (give r s)
  /-- A free value was returned. -/
  | free : Effect i s (readFree s)
  /-- Bits of the mask of its window were set. -/
  | setMask {w : Win} (bits : Word) (hw : actsThrough i = some w) : Effect i s (setIntMask w bits s)
  /-- Bits of the mask of its window were cleared. -/
  | clrMask {w : Win} (bits : Word) (hw : actsThrough i = some w) : Effect i s (clrIntMask w bits s)
  /-- A direction was enabled or disabled. -/
  | enable (q : QId) (b : Bool) : Effect i s (setDirEn q b s)
  /-- A word was staged in its window. -/
  | stage {w : Win} (q : QId) (k : Nat) (val : Word) (hw : actsThrough i = some w)
      (hk : ∀ c, wellFormed c i = true → k < c.nwords) : Effect i s (stageWord w q k val s)
  /-- A message was committed through its window, in the generation of the row. -/
  | commit {g : Gen} {w : Win} (q : QId) (val : Word) (hw : actsThrough i = some w)
      (hg : ∀ c, wellFormed c i = true → c.gen = g) : Effect i s (commitSend g w q val s)
  /-- A message was popped into the receive cache of its window, in the generation of the row. -/
  | pop {g : Gen} {w : Win} (q : QId) (hw : actsThrough i = some w) (hq : receivesFrom i q = true)
      (hg : ∀ c, wellFormed c i = true → c.gen = g) : Effect i s (popReceive g w q s)
  /-- A message was sent. -/
  | send (q : QId) (m : Message) : Effect i s (mbSend q m s)
  /-- A message was received. -/
  | receive (q : QId) (hq : receivesFrom i q = true) : Effect i s (giveMessage (mbRecv q s))
  /-- The coprocessor control word was written. -/
  | control (val : Word) (hi : i = .ctlWrCpuCtrl val := by rfl) : Effect i s (writeCpuCtrl val s)
  /-- The engine reacted. -/
  | engine {t : State} (hf : EngineFrame s t) (he : mayChangeEp0 i = false → t.ep0Status = s.ep0Status) :
      Effect i s t
  /-- The pending callback of queue IOP ran. -/
  | callback {t : State} (hb : s.iop.bhPending = true) (hr : runCallback s = .ok t)
      (hi : i = .bhIop := by rfl) : Effect i s t
  /-- The pending callback of queue AP ran. -/
  | apCallback (hb : s.ap.bhPending = true) (hi : i = .bhAp := by rfl) : Effect i s (runApCallback s)
  /-- An endpoint was registered. -/
  | registration {t : State} {wire handler : Nat} {user : Bool} (hi : isRegistration i = true)
      (hw : Config.EntryWf ⟨wire, handler, user⟩) (hr : register wire handler user s = .ok t) : Effect i s t
  /-- The channel was reset. -/
  | reset (hi : i = .reset := by rfl) : Effect i s (resetAll s)

/-- `NWORDS` of a V2 channel. -/
theorem nwords_v2 {c : Config} (h : c.gen = .v2) : c.nwords = 2 := by simp [Config.nwords, h]

/-- `NWORDS` of a V4 channel. -/
theorem nwords_v4 {c : Config} (h : c.gen = .v4) : c.nwords = 4 := by simp [Config.nwords, h]

/-! What `accepted` asks where it depends on the state or on an operand. -/

@[simp] theorem accepted_bhIop (s : State) : accepted s .bhIop = s.iop.bhPending := rfl

@[simp] theorem accepted_bhAp (s : State) : accepted s .bhAp = s.ap.bhPending := rfl

@[simp] theorem accepted_sendControlMessage (s : State) (id : Word) (p : Payload) :
    accepted s (.sendControlMessage id p) = decide (id.toNat ≤ 31) := rfl

@[simp] theorem accepted_sendUserMessage (s : State) (id : Word) (p : Payload) :
    accepted s (.sendUserMessage id p) = decide (id.toNat ≤ 2015) := rfl

@[simp] theorem accepted_registerControlEndpoint (s : State) (id : Word) (h : Nat) :
    accepted s (.registerControlEndpoint id h)
      = (1 ≤ id.toNat && id.toNat ≤ 31 && !s.live && (lookupEndpoint s.cfg.registry id.toNat).isNone) := rfl

@[simp] theorem accepted_registerUserEndpoint (s : State) (id : Word) (h : Nat) :
    accepted s (.registerUserEndpoint id h)
      = (id.toNat ≤ 2015 && !s.live && (lookupEndpoint s.cfg.registry (id.toNat + 32)).isNone) := rfl

/-- Acceptance reads the live mark, the registry and the pending flags only. -/
theorem accepted_begin (rest : List Request) (s : State) (i : Instr) :
    accepted (begin rest s) i = accepted s i := rfl

/-- Every next state of `exec` comes from one of these effects. -/
theorem exec_effect {i : Instr} {s t : State} (h : exec i s = .next t) : Effect i s t := by
  cases i with
  | v2WrMaskSet _ _ => cases h; exact .setMask _ rfl
  | v2RdMaskSet _ => cases h; exact .free
  | v2WrMaskClr _ _ => cases h; exact .clrMask _ rfl
  | v2RdMaskClr _ => cases h; exact .free
  | v2WrIopCtrl _ _ => cases h; exact .enable _ _
  | v2RdIopCtrl _ => cases h; exact .observe _
  | v2WrIopSend0 _ _ => cases h; exact .stage _ _ _ rfl (fun c hw => by simp [nwords_v2 (c := c) (by simpa [wellFormed] using hw)])
  | v2RdIopSend0 _ => cases h; exact .free
  | v2WrIopSend1 _ _ => cases h; exact .commit _ _ rfl (fun _ hw => by simpa [wellFormed] using hw)
  | v2RdIopSend1 _ => cases h; exact .free
  | v2WrIopRecv0 _ _ => cases h
  | v2RdIopRecv0 _ => cases h; exact .pop _ rfl rfl (fun _ hw => by simpa [wellFormed] using hw)
  | v2WrIopRecv1 _ _ => cases h
  | v2RdIopRecv1 _ => cases h; exact .observe _
  | v2WrApCtrl _ _ => cases h; exact .enable _ _
  | v2RdApCtrl _ => cases h; exact .observe _
  | v2WrApSend0 _ _ => cases h; exact .stage _ _ _ rfl (fun c hw => by simp [nwords_v2 (c := c) (by simpa [wellFormed] using hw)])
  | v2RdApSend0 _ => cases h; exact .free
  | v2WrApSend1 _ _ => cases h; exact .commit _ _ rfl (fun _ hw => by simpa [wellFormed] using hw)
  | v2RdApSend1 _ => cases h; exact .free
  | v2WrApRecv0 _ _ => cases h
  | v2RdApRecv0 _ => cases h; exact .pop _ rfl rfl (fun _ hw => by simpa [wellFormed] using hw)
  | v2WrApRecv1 _ _ => cases h
  | v2RdApRecv1 _ => cases h; exact .observe _
  | v2Undefined _ _ _ _ => cases h
  | v4WrMaskSet _ _ => cases h; exact .setMask _ rfl
  | v4RdMaskSet _ => cases h; exact .free
  | v4WrMaskClr _ _ => cases h; exact .clrMask _ rfl
  | v4RdMaskClr _ => cases h; exact .free
  | v4WrIopCtrl _ _ => cases h; exact .enable _ _
  | v4RdIopCtrl _ => cases h; exact .observe _
  | v4WrApCtrl _ _ => cases h; exact .enable _ _
  | v4RdApCtrl _ => cases h; exact .observe _
  | v4WrIopSend0 _ _ => cases h; exact .stage _ _ _ rfl (fun c hw => by simp [nwords_v4 (c := c) (by simpa [wellFormed] using hw)])
  | v4RdIopSend0 _ => cases h; exact .free
  | v4WrIopSend1 _ _ => cases h; exact .stage _ _ _ rfl (fun c hw => by simp [nwords_v4 (c := c) (by simpa [wellFormed] using hw)])
  | v4RdIopSend1 _ => cases h; exact .free
  | v4WrIopSend2 _ _ => cases h; exact .stage _ _ _ rfl (fun c hw => by simp [nwords_v4 (c := c) (by simpa [wellFormed] using hw)])
  | v4RdIopSend2 _ => cases h; exact .free
  | v4WrIopSend3 _ _ => cases h; exact .commit _ _ rfl (fun _ hw => by simpa [wellFormed] using hw)
  | v4RdIopSend3 _ => cases h; exact .free
  | v4WrIopRecv0 _ _ => cases h
  | v4RdIopRecv0 _ => cases h; exact .pop _ rfl rfl (fun _ hw => by simpa [wellFormed] using hw)
  | v4WrIopRecv1 _ _ => cases h
  | v4RdIopRecv1 _ => cases h; exact .observe _
  | v4WrIopRecv2 _ _ => cases h
  | v4RdIopRecv2 _ => cases h; exact .observe _
  | v4WrIopRecv3 _ _ => cases h
  | v4RdIopRecv3 _ => cases h; exact .observe _
  | v4WrApSend0 _ _ => cases h; exact .stage _ _ _ rfl (fun c hw => by simp [nwords_v4 (c := c) (by simpa [wellFormed] using hw)])
  | v4RdApSend0 _ => cases h; exact .free
  | v4WrApSend1 _ _ => cases h; exact .stage _ _ _ rfl (fun c hw => by simp [nwords_v4 (c := c) (by simpa [wellFormed] using hw)])
  | v4RdApSend1 _ => cases h; exact .free
  | v4WrApSend2 _ _ => cases h; exact .stage _ _ _ rfl (fun c hw => by simp [nwords_v4 (c := c) (by simpa [wellFormed] using hw)])
  | v4RdApSend2 _ => cases h; exact .free
  | v4WrApSend3 _ _ => cases h; exact .commit _ _ rfl (fun _ hw => by simpa [wellFormed] using hw)
  | v4RdApSend3 _ => cases h; exact .free
  | v4WrApRecv0 _ _ => cases h
  | v4RdApRecv0 _ => cases h; exact .pop _ rfl rfl (fun _ hw => by simpa [wellFormed] using hw)
  | v4WrApRecv1 _ _ => cases h
  | v4RdApRecv1 _ => cases h; exact .observe _
  | v4WrApRecv2 _ _ => cases h
  | v4RdApRecv2 _ => cases h; exact .observe _
  | v4WrApRecv3 _ _ => cases h
  | v4RdApRecv3 _ => cases h; exact .observe _
  | v4Undefined _ _ _ _ => cases h
  | regBadSize _ _ _ _ _ => cases h
  | ctlWrCpuCtrl _ => cases h; exact .control _
  | ctlRdCpuCtrl => cases h; exact .observe _
  | ctlRdCpuStatus => cases h; exact .observe _
  | ctlWrCpuStatus _ => cases h
  | ctlUndefined _ _ _ => cases h
  | mgmtInReserved0 _ => cases h; exact .engine (inDropped_engine _ _) (fun _ => by simp)
  | mgmtInHello _ => cases h; exact .engine (inDropped_engine _ _) (fun _ => by simp)
  | mgmtInHelloAck _ => cases h; exact .engine (inHelloAck_engine _ _) (fun hm => by cases hm)
  | mgmtInPing _ => cases h; exact .engine (inPing_engine _ _) (fun _ => by simp)
  | mgmtInPingAck _ => cases h; exact .engine (inDropped_engine _ _) (fun _ => by simp)
  | mgmtInEndpointStart _ => cases h; exact .engine (inDropped_engine _ _) (fun _ => by simp)
  | mgmtInSetIopPowerState _ => cases h; exact .engine (inDropped_engine _ _) (fun _ => by simp)
  | mgmtInPowerStateAck _ => cases h; exact .engine (inDropped_engine _ _) (fun _ => by simp)
  | mgmtInRollcall _ => cases h; exact .engine (inRollcall_engine _ _) (fun hm => by cases hm)
  | mgmtInReserved9 _ => cases h; exact .engine (inDropped_engine _ _) (fun _ => by simp)
  | mgmtInReserved10 _ => cases h; exact .engine (inDropped_engine _ _) (fun _ => by simp)
  | mgmtInSetApPowerState _ => cases h; exact .engine (inDropped_engine _ _) (fun _ => by simp)
  | mgmtInReserved12 _ => cases h; exact .engine (inDropped_engine _ _) (fun _ => by simp)
  | mgmtInReserved13 _ => cases h; exact .engine (inDropped_engine _ _) (fun _ => by simp)
  | mgmtInReserved14 _ => cases h; exact .engine (inDropped_engine _ _) (fun _ => by simp)
  | mgmtInReserved15 _ => cases h; exact .engine (inDropped_engine _ _) (fun _ => by simp)
  | mgmtOutHello => cases h; exact .engine (sendMgmt_engine _ _) (fun _ => by simp)
  | mgmtOutPingAck _ => cases h; exact .engine (sendMgmt_engine _ _) (fun _ => by simp)
  | mgmtOutRollcall _ _ _ => cases h; exact .engine (sendMgmt_engine _ _) (fun _ => by simp)
  | mgmtOutPowerStateAck => cases h; exact .engine (sendMgmt_engine _ _) (fun _ => by simp)
  | mbSend _ _ => cases h; exact .send _ _
  | mbRecv _ => cases h; exact .receive _ (by simp [receivesFrom])
  | mbSetIntMask _ _ => cases h; exact .setMask _ rfl
  | mbClrIntMask _ _ => cases h; exact .clrMask _ rfl
  | mbSetDirEn _ _ => cases h; exact .enable _ _
  | status _ => cases h; exact .observe _
  | sendToAp _ => cases h; exact .send _ _
  | receiveFromAp => cases h; exact .receive _ (by simp [receivesFrom])
  | sendToIop _ => cases h; exact .send _ _
  | receiveFromIop => cases h; exact .receive _ (by simp [receivesFrom])
  | registerControlEndpoint _ _ =>
    obtain ⟨hi, hr⟩ := registerControl_ok (toOutcome_next h)
    exact .registration rfl (show Config.EntryWf ⟨_, _, false⟩ from hi) hr
  | registerUserEndpoint _ _ =>
    obtain ⟨hi, hr⟩ := registerUser_ok (toOutcome_next h)
    exact .registration rfl (show Config.EntryWf ⟨_, _, true⟩ from ⟨Nat.le_add_left _ _, hi⟩) hr
  | sendControlMessage _ _ => rw [(sendControl_ok (toOutcome_next h)).2]; exact .send _ _
  | sendUserMessage _ _ => rw [(sendUser_ok (toOutcome_next h)).2]; exact .send _ _
  | startOrWakeup => cases h; exact .engine (startOrWakeup_engine _) (fun hm => by cases hm)
  | buildRollcall => cases h; exact .observe _
  | bhIop =>
    by_cases hb : s.iop.bhPending = true
    · exact .callback hb (toOutcome_next (by simpa [exec, execBhIop, hb] using h))
    · simp [exec, execBhIop, hb] at h
  | bhAp =>
    by_cases hb : s.ap.bhPending = true
    · simp only [exec, execBhAp, hb, if_true] at h; cases h; exact .apCallback hb
    · simp [exec, execBhAp, hb] at h
  | mgmtDispatch _ => cases h; exact .engine (mgmt_engine _ _) (fun hm => by cases hm)
  | routeRegistered _ => exact .engine (route_ok (toOutcome_next h)) (fun hm => by cases hm)
  | routeUnregistered _ => cases h; exact .engine (diag_engine _ _) (fun _ => rfl)
  | reset => cases h; exact .reset

end Sys2Proof.Machine
end

