-- ==== Sys2Proof/Laws/Fields.lean ====
section
/-! SUPPORT. The small lemmas of the pure layouts: byte strings, single bits and count fields of a status
word, and the registry as a finite map. -/

namespace Sys2Proof.Machine

/-! ### Byte strings -/

@[simp] theorem leBytes_length (n v : Nat) : (leBytes n v).length = n := by
  induction n generalizing v with
  | zero => rfl
  | succ n ih => simp [leBytes, ih]

/-- The bytes of a number spell it, as far as they reach. -/
theorem leNat_leBytes (n v : Nat) : leNat (leBytes n v) = v % 256 ^ n := by
  induction n generalizing v with
  | zero => simp [leBytes, leNat, Nat.mod_one]
  | succ n ih =>
    rw [leBytes, leNat, ih, Nat.pow_succ', Nat.mod_mul]
    simp

theorem leNat_lt (bs : List Byte) : leNat bs < 256 ^ bs.length := by
  induction bs with
  | nil => simp [leNat]
  | cons b bs ih =>
    have := b.isLt
    rw [leNat, List.length_cons, Nat.pow_succ']
    omega

/-- A byte string is spelt by its number. -/
theorem leBytes_leNat (bs : List Byte) : leBytes bs.length (leNat bs) = bs := by
  induction bs with
  | nil => rfl
  | cons b bs ih =>
    have hb := b.isLt
    have hd : (b.toNat + 256 * leNat bs) / 256 = leNat bs := by omega
    have hm : BitVec.ofNat 8 (b.toNat + 256 * leNat bs) = b := by
      apply BitVec.eq_of_toNat_eq
      simp only [BitVec.toNat_ofNat]
      omega
    rw [List.length_cons, leNat, leBytes, hd, hm, ih]

/-! ### Fields of a status word -/

theorem flagBit_getLsbD (b : Bool) (pos k : Nat) :
    (flagBit b pos).getLsbD k = (b && decide (k = pos) && decide (k < 32)) := by
  cases b
  · simp [flagBit]
  · simp only [flagBit, if_true, BitVec.getLsbD_shiftLeft, Bool.true_and]
    by_cases h : k = pos
    · subst h
      by_cases h2 : k < 32 <;> simp [h2]
    · by_cases h3 : k < pos
      · simp [h, h3]
      · have h4 : k - pos ≠ 0 := by omega
        simp [h, h3, h4]

/-- A number truncated to `w` bits and placed at bit `l`. -/
theorem countField_getLsbD {l w : Nat} (n k : Nat) (h : l + w ≤ 32) :
    (BitVec.ofNat 32 (n % 2 ^ w) <<< l).getLsbD k
      = (decide (l ≤ k) && decide (k < l + w) && n.testBit (k - l)) := by
  simp only [BitVec.getLsbD_shiftLeft, BitVec.getLsbD_ofNat, Nat.testBit_mod_two_pow]
  by_cases h1 : l ≤ k <;> by_cases h2 : k < l + w
  · simp [h1, h2, show k < 32 by omega, show ¬k < l by omega, show k - l < 32 by omega,
      show k - l < w by omega]
  · simp [h2, show ¬k - l < w by omega]
  · simp [h1, show k < l by omega]
  · simp [h1, h2, show k < l by omega]

/-! ### The registry -/

theorem mem_insertEndpoint (e x : Endpoint) (reg : List Endpoint) :
    x ∈ insertEndpoint e reg ↔ x = e ∨ x ∈ reg := by
  induction reg with
  | nil => simp [insertEndpoint]
  | cons y ys ih =>
    unfold insertEndpoint
    split
    · simp
    · simp [ih]; tauto

theorem lookup_insertEndpoint_self {e : Endpoint} {reg : List Endpoint}
    (h : lookupEndpoint reg e.wire = none) : lookupEndpoint (insertEndpoint e reg) e.wire = some e := by
  induction reg with
  | nil => simp [insertEndpoint, lookupEndpoint]
  | cons x xs ih =>
    simp only [lookupEndpoint, List.find?_cons] at h ih ⊢
    cases hx : x.wire == e.wire
    · rw [hx] at h
      unfold insertEndpoint
      split
      · simp
      · rw [List.find?_cons, hx]; exact ih h
    · rw [hx] at h; cases h

theorem lookup_insertEndpoint_ne {e : Endpoint} (reg : List Endpoint) {wire : Nat} (h : wire ≠ e.wire) :
    lookupEndpoint (insertEndpoint e reg) wire = lookupEndpoint reg wire := by
  have h' : (e.wire == wire) = false := by simpa using fun k => h k.symm
  induction reg with
  | nil => simp [insertEndpoint, lookupEndpoint, h']
  | cons x xs ih =>
    unfold insertEndpoint
    split
    · simp [lookupEndpoint, List.find?_cons, h']
    · simp only [lookupEndpoint, List.find?_cons] at ih ⊢
      rw [ih]

/-- A new entry keeps the registry a finite map in ascending wire id (43_rtbuddy_engine.md R192). -/
theorem insertEndpoint_wf {e : Endpoint} {reg : List Endpoint} (h : lookupEndpoint reg e.wire = none)
    (hr : Config.RegistryWf reg) (he : Config.EntryWf e) : Config.RegistryWf (insertEndpoint e reg) := by
  obtain ⟨hp, hm⟩ := hr
  refine ⟨?_, ?_⟩
  · clear hm
    induction reg with
    | nil => simp [insertEndpoint]
    | cons x xs ih =>
      rw [List.pairwise_cons] at hp
      have hx : x.wire ≠ e.wire := by
        intro hx
        simp [lookupEndpoint, hx] at h
      have h' : lookupEndpoint xs e.wire = none := by simpa [lookupEndpoint, hx] using h
      unfold insertEndpoint
      split
      · next hlt =>
        refine List.pairwise_cons.mpr ⟨?_, List.pairwise_cons.mpr hp⟩
        intro y hy
        rcases List.mem_cons.mp hy with rfl | hy
        · exact hlt
        · exact Nat.lt_trans hlt (hp.1 y hy)
      · next hge =>
        refine List.pairwise_cons.mpr ⟨?_, ih h' hp.2⟩
        intro y hy
        rcases (mem_insertEndpoint e y xs).mp hy with rfl | hy
        · omega
        · exact hp.1 y hy
  · intro y hy
    rcases (mem_insertEndpoint e y reg).mp hy with rfl | hy
    · exact he
    · exact hm y hy

end Sys2Proof.Machine
end

