-- ==== Sys2Proof/Laws/PerInstr.lean ====
section
/-! SUPPORT. Facts about every operation as syntax, one lemma for each constructor of `Instr`. -/

namespace Sys2Proof.Laws.EncodedLength

open Sys2Proof.Machine

/-- The encoding of an operation has as many bytes as the format of its port (log entry 2). -/
def Statement (i : Instr) : Prop := ∀ c : Config, (encode c i).bytes.length = portBytes (encode c i).port

theorem v2WrMaskSet (w : Win) (val : Word) : Statement (.v2WrMaskSet w val) := fun _ => leBytes_length _ _

theorem v2RdMaskSet (w : Win) : Statement (.v2RdMaskSet w) := fun _ => leBytes_length _ _

theorem v2WrMaskClr (w : Win) (val : Word) : Statement (.v2WrMaskClr w val) := fun _ => leBytes_length _ _

theorem v2RdMaskClr (w : Win) : Statement (.v2RdMaskClr w) := fun _ => leBytes_length _ _

theorem v2WrIopCtrl (w : Win) (val : Word) : Statement (.v2WrIopCtrl w val) := fun _ => leBytes_length _ _

theorem v2RdIopCtrl (w : Win) : Statement (.v2RdIopCtrl w) := fun _ => leBytes_length _ _

theorem v2WrIopSend0 (w : Win) (val : Word) : Statement (.v2WrIopSend0 w val) := fun _ => leBytes_length _ _

theorem v2RdIopSend0 (w : Win) : Statement (.v2RdIopSend0 w) := fun _ => leBytes_length _ _

theorem v2WrIopSend1 (w : Win) (val : Word) : Statement (.v2WrIopSend1 w val) := fun _ => leBytes_length _ _

theorem v2RdIopSend1 (w : Win) : Statement (.v2RdIopSend1 w) := fun _ => leBytes_length _ _

theorem v2WrIopRecv0 (w : Win) (val : Word) : Statement (.v2WrIopRecv0 w val) := fun _ => leBytes_length _ _

theorem v2RdIopRecv0 (w : Win) : Statement (.v2RdIopRecv0 w) := fun _ => leBytes_length _ _

theorem v2WrIopRecv1 (w : Win) (val : Word) : Statement (.v2WrIopRecv1 w val) := fun _ => leBytes_length _ _

theorem v2RdIopRecv1 (w : Win) : Statement (.v2RdIopRecv1 w) := fun _ => leBytes_length _ _

theorem v2WrApCtrl (w : Win) (val : Word) : Statement (.v2WrApCtrl w val) := fun _ => leBytes_length _ _

theorem v2RdApCtrl (w : Win) : Statement (.v2RdApCtrl w) := fun _ => leBytes_length _ _

theorem v2WrApSend0 (w : Win) (val : Word) : Statement (.v2WrApSend0 w val) := fun _ => leBytes_length _ _

theorem v2RdApSend0 (w : Win) : Statement (.v2RdApSend0 w) := fun _ => leBytes_length _ _

theorem v2WrApSend1 (w : Win) (val : Word) : Statement (.v2WrApSend1 w val) := fun _ => leBytes_length _ _

theorem v2RdApSend1 (w : Win) : Statement (.v2RdApSend1 w) := fun _ => leBytes_length _ _

theorem v2WrApRecv0 (w : Win) (val : Word) : Statement (.v2WrApRecv0 w val) := fun _ => leBytes_length _ _

theorem v2RdApRecv0 (w : Win) : Statement (.v2RdApRecv0 w) := fun _ => leBytes_length _ _

theorem v2WrApRecv1 (w : Win) (val : Word) : Statement (.v2WrApRecv1 w val) := fun _ => leBytes_length _ _

theorem v2RdApRecv1 (w : Win) : Statement (.v2RdApRecv1 w) := fun _ => leBytes_length _ _

theorem v2Undefined (w : Win) (dir : Dir) (off : Nat) (val : Word) : Statement (.v2Undefined w dir off val) := fun _ => leBytes_length _ _

theorem v4WrMaskSet (w : Win) (val : Word) : Statement (.v4WrMaskSet w val) := fun _ => leBytes_length _ _

theorem v4RdMaskSet (w : Win) : Statement (.v4RdMaskSet w) := fun _ => leBytes_length _ _

theorem v4WrMaskClr (w : Win) (val : Word) : Statement (.v4WrMaskClr w val) := fun _ => leBytes_length _ _

theorem v4RdMaskClr (w : Win) : Statement (.v4RdMaskClr w) := fun _ => leBytes_length _ _

theorem v4WrIopCtrl (w : Win) (val : Word) : Statement (.v4WrIopCtrl w val) := fun _ => leBytes_length _ _

theorem v4RdIopCtrl (w : Win) : Statement (.v4RdIopCtrl w) := fun _ => leBytes_length _ _

theorem v4WrApCtrl (w : Win) (val : Word) : Statement (.v4WrApCtrl w val) := fun _ => leBytes_length _ _

theorem v4RdApCtrl (w : Win) : Statement (.v4RdApCtrl w) := fun _ => leBytes_length _ _

theorem v4WrIopSend0 (w : Win) (val : Word) : Statement (.v4WrIopSend0 w val) := fun _ => leBytes_length _ _

theorem v4RdIopSend0 (w : Win) : Statement (.v4RdIopSend0 w) := fun _ => leBytes_length _ _

theorem v4WrIopSend1 (w : Win) (val : Word) : Statement (.v4WrIopSend1 w val) := fun _ => leBytes_length _ _

theorem v4RdIopSend1 (w : Win) : Statement (.v4RdIopSend1 w) := fun _ => leBytes_length _ _

theorem v4WrIopSend2 (w : Win) (val : Word) : Statement (.v4WrIopSend2 w val) := fun _ => leBytes_length _ _

theorem v4RdIopSend2 (w : Win) : Statement (.v4RdIopSend2 w) := fun _ => leBytes_length _ _

theorem v4WrIopSend3 (w : Win) (val : Word) : Statement (.v4WrIopSend3 w val) := fun _ => leBytes_length _ _

theorem v4RdIopSend3 (w : Win) : Statement (.v4RdIopSend3 w) := fun _ => leBytes_length _ _

theorem v4WrIopRecv0 (w : Win) (val : Word) : Statement (.v4WrIopRecv0 w val) := fun _ => leBytes_length _ _

theorem v4RdIopRecv0 (w : Win) : Statement (.v4RdIopRecv0 w) := fun _ => leBytes_length _ _

theorem v4WrIopRecv1 (w : Win) (val : Word) : Statement (.v4WrIopRecv1 w val) := fun _ => leBytes_length _ _

theorem v4RdIopRecv1 (w : Win) : Statement (.v4RdIopRecv1 w) := fun _ => leBytes_length _ _

theorem v4WrIopRecv2 (w : Win) (val : Word) : Statement (.v4WrIopRecv2 w val) := fun _ => leBytes_length _ _

theorem v4RdIopRecv2 (w : Win) : Statement (.v4RdIopRecv2 w) := fun _ => leBytes_length _ _

theorem v4WrIopRecv3 (w : Win) (val : Word) : Statement (.v4WrIopRecv3 w val) := fun _ => leBytes_length _ _

theorem v4RdIopRecv3 (w : Win) : Statement (.v4RdIopRecv3 w) := fun _ => leBytes_length _ _

theorem v4WrApSend0 (w : Win) (val : Word) : Statement (.v4WrApSend0 w val) := fun _ => leBytes_length _ _

theorem v4RdApSend0 (w : Win) : Statement (.v4RdApSend0 w) := fun _ => leBytes_length _ _

theorem v4WrApSend1 (w : Win) (val : Word) : Statement (.v4WrApSend1 w val) := fun _ => leBytes_length _ _

theorem v4RdApSend1 (w : Win) : Statement (.v4RdApSend1 w) := fun _ => leBytes_length _ _

theorem v4WrApSend2 (w : Win) (val : Word) : Statement (.v4WrApSend2 w val) := fun _ => leBytes_length _ _

theorem v4RdApSend2 (w : Win) : Statement (.v4RdApSend2 w) := fun _ => leBytes_length _ _

theorem v4WrApSend3 (w : Win) (val : Word) : Statement (.v4WrApSend3 w val) := fun _ => leBytes_length _ _

theorem v4RdApSend3 (w : Win) : Statement (.v4RdApSend3 w) := fun _ => leBytes_length _ _

theorem v4WrApRecv0 (w : Win) (val : Word) : Statement (.v4WrApRecv0 w val) := fun _ => leBytes_length _ _

theorem v4RdApRecv0 (w : Win) : Statement (.v4RdApRecv0 w) := fun _ => leBytes_length _ _

theorem v4WrApRecv1 (w : Win) (val : Word) : Statement (.v4WrApRecv1 w val) := fun _ => leBytes_length _ _

theorem v4RdApRecv1 (w : Win) : Statement (.v4RdApRecv1 w) := fun _ => leBytes_length _ _

theorem v4WrApRecv2 (w : Win) (val : Word) : Statement (.v4WrApRecv2 w val) := fun _ => leBytes_length _ _

theorem v4RdApRecv2 (w : Win) : Statement (.v4RdApRecv2 w) := fun _ => leBytes_length _ _

theorem v4WrApRecv3 (w : Win) (val : Word) : Statement (.v4WrApRecv3 w val) := fun _ => leBytes_length _ _

theorem v4RdApRecv3 (w : Win) : Statement (.v4RdApRecv3 w) := fun _ => leBytes_length _ _

theorem v4Undefined (w : Win) (dir : Dir) (off : Nat) (val : Word) : Statement (.v4Undefined w dir off val) := fun _ => leBytes_length _ _

theorem regBadSize (sp : Space) (dir : Dir) (size : Size) (off : Nat) (val : Nat) : Statement (.regBadSize sp dir size off val) := fun _ => leBytes_length _ _

theorem ctlWrCpuCtrl (val : Word) : Statement (.ctlWrCpuCtrl val) := fun _ => leBytes_length _ _

theorem ctlRdCpuCtrl : Statement .ctlRdCpuCtrl := fun _ => leBytes_length _ _

theorem ctlRdCpuStatus : Statement .ctlRdCpuStatus := fun _ => leBytes_length _ _

theorem ctlWrCpuStatus (val : Word) : Statement (.ctlWrCpuStatus val) := fun _ => leBytes_length _ _

theorem ctlUndefined (dir : Dir) (off : Nat) (val : Word) : Statement (.ctlUndefined dir off val) := fun _ => leBytes_length _ _

theorem mgmtInReserved0 (p : Payload) : Statement (.mgmtInReserved0 p) := fun _ => leBytes_length _ _

theorem mgmtInHello (p : Payload) : Statement (.mgmtInHello p) := fun _ => leBytes_length _ _

theorem mgmtInHelloAck (p : Payload) : Statement (.mgmtInHelloAck p) := fun _ => leBytes_length _ _

theorem mgmtInPing (p : Payload) : Statement (.mgmtInPing p) := fun _ => leBytes_length _ _

theorem mgmtInPingAck (p : Payload) : Statement (.mgmtInPingAck p) := fun _ => leBytes_length _ _

theorem mgmtInEndpointStart (p : Payload) : Statement (.mgmtInEndpointStart p) := fun _ => leBytes_length _ _

theorem mgmtInSetIopPowerState (p : Payload) : Statement (.mgmtInSetIopPowerState p) := fun _ => leBytes_length _ _

theorem mgmtInPowerStateAck (p : Payload) : Statement (.mgmtInPowerStateAck p) := fun _ => leBytes_length _ _

theorem mgmtInRollcall (p : Payload) : Statement (.mgmtInRollcall p) := fun _ => leBytes_length _ _

theorem mgmtInReserved9 (p : Payload) : Statement (.mgmtInReserved9 p) := fun _ => leBytes_length _ _

theorem mgmtInReserved10 (p : Payload) : Statement (.mgmtInReserved10 p) := fun _ => leBytes_length _ _

theorem mgmtInSetApPowerState (p : Payload) : Statement (.mgmtInSetApPowerState p) := fun _ => leBytes_length _ _

theorem mgmtInReserved12 (p : Payload) : Statement (.mgmtInReserved12 p) := fun _ => leBytes_length _ _

theorem mgmtInReserved13 (p : Payload) : Statement (.mgmtInReserved13 p) := fun _ => leBytes_length _ _

theorem mgmtInReserved14 (p : Payload) : Statement (.mgmtInReserved14 p) := fun _ => leBytes_length _ _

theorem mgmtInReserved15 (p : Payload) : Statement (.mgmtInReserved15 p) := fun _ => leBytes_length _ _

theorem mgmtOutHello : Statement .mgmtOutHello := fun _ => leBytes_length _ _

theorem mgmtOutPingAck (p : Payload) : Statement (.mgmtOutPingAck p) := fun _ => leBytes_length _ _

theorem mgmtOutRollcall (mask : Word) (block : BitVec 6) (ended : Bool) : Statement (.mgmtOutRollcall mask block ended) := fun _ => leBytes_length _ _

theorem mgmtOutPowerStateAck : Statement .mgmtOutPowerStateAck := fun _ => leBytes_length _ _

theorem mbSend (q : QId) (m : Message) : Statement (.mbSend q m) := fun _ => leBytes_length _ _

theorem mbRecv (q : QId) : Statement (.mbRecv q) := fun _ => leBytes_length _ _

theorem mbSetIntMask (w : Win) (bits : Word) : Statement (.mbSetIntMask w bits) := fun _ => leBytes_length _ _

theorem mbClrIntMask (w : Win) (bits : Word) : Statement (.mbClrIntMask w bits) := fun _ => leBytes_length _ _

theorem mbSetDirEn (q : QId) (b : Bool) : Statement (.mbSetDirEn q b) := fun _ => leBytes_length _ _

theorem status (q : QId) : Statement (.status q) := fun _ => leBytes_length _ _

theorem sendToAp (m : Message) : Statement (.sendToAp m) := fun _ => leBytes_length _ _

theorem receiveFromAp : Statement .receiveFromAp := fun _ => leBytes_length _ _

theorem sendToIop (m : Message) : Statement (.sendToIop m) := fun _ => leBytes_length _ _

theorem receiveFromIop : Statement .receiveFromIop := fun _ => leBytes_length _ _

theorem registerControlEndpoint (id : Word) (handler : Nat) : Statement (.registerControlEndpoint id handler) := fun _ => leBytes_length _ _

theorem registerUserEndpoint (id : Word) (handler : Nat) : Statement (.registerUserEndpoint id handler) := fun _ => leBytes_length _ _

theorem sendControlMessage (id : Word) (payload : Payload) : Statement (.sendControlMessage id payload) := fun _ => leBytes_length _ _

theorem sendUserMessage (id : Word) (payload : Payload) : Statement (.sendUserMessage id payload) := fun _ => leBytes_length _ _

theorem startOrWakeup : Statement .startOrWakeup := fun _ => leBytes_length _ _

theorem buildRollcall : Statement .buildRollcall := fun _ => leBytes_length _ _

theorem bhIop : Statement .bhIop := fun _ => leBytes_length _ _

theorem bhAp : Statement .bhAp := fun _ => leBytes_length _ _

theorem mgmtDispatch (p : Payload) : Statement (.mgmtDispatch p) := fun _ => leBytes_length _ _

theorem routeRegistered (m : Message) : Statement (.routeRegistered m) := fun _ => leBytes_length _ _

theorem routeUnregistered (m : Message) : Statement (.routeUnregistered m) := fun _ => leBytes_length _ _

theorem reset : Statement .reset := fun _ => leBytes_length _ _

end Sys2Proof.Laws.EncodedLength
end

