-- ==== Sys2Proof/Tests/Slice0.lean ====
section
/-! SUPPORT. Small tests: ill-formed terms refused, words of the opcode table decoded, vectors of
95_test_vectors.md (one step each), and for every statement with hypotheses a witness that meets them. -/

namespace Sys2Proof.Tests

open Sys2Proof.Machine Sys2Proof.Claims

/-! ### Helpers -/

/-- A V2 channel with the registry of 95_test_vectors.md S5. -/
def cfgV2 : Config :=
  { Config.default with registry := [⟨5, 1, false⟩, ⟨40, 2, true⟩, ⟨70, 3, true⟩, ⟨100, 4, true⟩] }

/-- A V4 channel with the same registry. -/
def cfgV4 : Config := { cfgV2 with gen := .v4 }

/-- A reset channel of a configuration. -/
def fresh (c : Config) : State := { State.reset with cfg := c }

/-- A state with the messages of queue `q` replaced. -/
def holding (q : QId) (ms : List Message) (s : State) : State :=
  s.setQueue q { s.queue q with inbox := ms, count := ms.length }

/-- A state with queue `q` enabled or disabled. -/
def enabled (q : QId) (b : Bool) (s : State) : State := s.setQueue q { s.queue q with en := b }

/-- A state with the underflow latch of queue `q` set. -/
def latched (q : QId) (s : State) : State := s.setQueue q { s.queue q with underflow := true }

/-- A state with a pending callback and the messages of queue IOP replaced. -/
def pending (ms : List Message) (s : State) : State :=
  { holding .iop ms s with iop := { (holding .iop ms s).iop with bhPending := true } }

/-- A message with a payload and an endpoint. -/
def msg (p : Payload) (ep : Word) : Message := ⟨p, ep, 0⟩

/-- A request decodes to an operation. -/
def decodesTo (c : Config) (p : Port) (bytes : List Byte) (i : Instr) : Bool :=
  match decode c { port := p, bytes := bytes } with
  | .ok j => j == i
  | .error _ => false

/-- A request is rejected for a reason. -/
def rejects (c : Config) (p : Port) (bytes : List Byte) (e : DecodeError) : Bool :=
  match decode c { port := p, bytes := bytes } with
  | .ok _ => false
  | .error d => d == e

/-- The bytes of a 32-bit write of 0xDEADBEEF whose access word has the bytes `lo`, `hi`. -/
def writeBytes (lo hi : Byte) : List Byte :=
  [lo, hi, 0xEF, 0xBE, 0xAD, 0xDE, 0, 0, 0, 0, 0, 0, 0, 0]

/-- The bytes of a 32-bit read whose access word has the bytes `lo`, `hi`. -/
def readBytes (lo hi : Byte) : List Byte := [lo, hi, 0, 0, 0, 0, 0, 0, 0, 0, 0, 0, 0, 0]

/-- The image of a message with `msg` 0x0807060504030201, `endpoint` 0x0C0B0A09, `flags` 0x100F0E0D. -/
def imageBytes : List Byte :=
  [0x01, 0x02, 0x03, 0x04, 0x05, 0x06, 0x07, 0x08, 0x09, 0x0A, 0x0B, 0x0C, 0x0D, 0x0E, 0x0F, 0x10]

/-- The message of `imageBytes`. -/
def imageMsg : Message := ⟨0x0807060504030201, 0x0C0B0A09, 0x100F0E0D⟩

/-- What an observation gives on the next state of an operation. -/
def seen {α : Type} (f : State → α) (o : Host.Outcome State Fault Refusal) : Option α :=
  match o with
  | .next t => some (f t)
  | _ => none

/-- Why an operation is refused. -/
def refusal (o : Host.Outcome State Fault Refusal) : Option Refusal :=
  match o with
  | .refused e => some e
  | _ => none

/-- The lines of a window as (IOP nonempty, IOP empty, AP nonempty, AP empty), the order of
95_test_vectors.md section 2.5. -/
def lines (w : Win) (s : State) : List Bool :=
  [irq s w (.nonempty .iop), irq s w (.empty .iop), irq s w (.nonempty .ap), irq s w (.empty .ap)]

/-! ### Well-formedness: an ill-formed term for each check -/

theorem test_wf_generation :
    wellFormed cfgV4 (.v2WrMaskSet .apw 0) = false ∧ wellFormed cfgV2 (.v4RdIopRecv0 .apw) = false := by
  decide

theorem test_wf_undefined :
    wellFormed cfgV2 (.v2Undefined .apw .read 0x0E 0) = false
    ∧ wellFormed cfgV2 (.v2Undefined .apw .read 0x1000 0) = false
    ∧ wellFormed cfgV2 (.v2Undefined .apw .read 0x10 0) = false
    ∧ wellFormed cfgV2 (.v2Undefined .apw .read 0x0C 1) = false
    ∧ wellFormed cfgV4 (.v2Undefined .apw .read 0x0C 0) = false
    ∧ wellFormed { cfgV2 with mmioSize := 2 ^ 45 } (.v2Undefined .apw .read (2 ^ 44) 0) = false
    ∧ wellFormed cfgV4 (.v4Undefined .apw .write 0x73C 0) = false
    ∧ wellFormed cfgV2 (.v2Undefined .apw .write 0x0C 1) = true
    ∧ wellFormed cfgV4 (.v4Undefined .apw .read 0x740 0) = true := by
  decide

theorem test_wf_bad_size :
    wellFormed cfgV2 (.regBadSize .control .read .b4 0x44 0) = false
    ∧ wellFormed cfgV2 (.regBadSize .control .read .b1 (2 ^ 44) 0) = false
    ∧ wellFormed cfgV2 (.regBadSize (.window .apw) .read .b1 0x1000 0) = false
    ∧ wellFormed cfgV2 (.regBadSize (.window .apw) .read .b1 0x10 1) = false
    ∧ wellFormed cfgV2 (.regBadSize (.window .apw) .write .b1 0x10 256) = false
    ∧ wellFormed cfgV2 (.regBadSize (.window .apw) .write .b1 0x10 255) = true := by
  decide

theorem test_wf_control_undefined :
    wellFormed cfgV2 (.ctlUndefined .read 0x42 0) = false
    ∧ wellFormed cfgV2 (.ctlUndefined .read 0x44 0) = false
    ∧ wellFormed cfgV2 (.ctlUndefined .read 0x48 0) = false
    ∧ wellFormed cfgV2 (.ctlUndefined .read (2 ^ 44) 0) = false
    ∧ wellFormed cfgV2 (.ctlUndefined .read 0x4C 1) = false
    ∧ wellFormed cfgV2 (.ctlUndefined .read 0x4C 0) = true := by
  decide

/-- A payload of type 15 is no payload of the types 0 to 14, and one of type 0 none of type 15. -/
theorem test_wf_mgmt_types :
    [Instr.mgmtInReserved0 0x0F00000000000000, .mgmtInHello 0x0F00000000000000,
     .mgmtInHelloAck 0x0F00000000000000, .mgmtInPing 0x0F00000000000000, .mgmtInPingAck 0x0F00000000000000,
     .mgmtInEndpointStart 0x0F00000000000000, .mgmtInSetIopPowerState 0x0F00000000000000,
     .mgmtInPowerStateAck 0x0F00000000000000, .mgmtInRollcall 0x0F00000000000000,
     .mgmtInReserved9 0x0F00000000000000, .mgmtInReserved10 0x0F00000000000000,
     .mgmtInSetApPowerState 0x0F00000000000000, .mgmtInReserved12 0x0F00000000000000,
     .mgmtInReserved13 0x0F00000000000000, .mgmtInReserved14 0x0F00000000000000, .mgmtInReserved15 0,
     .mgmtOutPingAck 0x0F00000000000000].all (fun i => !wellFormed cfgV2 i) = true := by
  decide

theorem test_wf_rollcall :
    wellFormed cfgV2 (.mgmtOutRollcall 0 3 false) = false
    ∧ wellFormed cfgV2 (.mgmtOutRollcall 1 0 true) = false
    ∧ wellFormed cfgV2 (.mgmtOutRollcall 0 1 true) = false
    ∧ wellFormed cfgV2 (.mgmtOutRollcall 0 0 true) = true := by
  decide

theorem test_wf_interface :
    wellFormed cfgV2 (.registerControlEndpoint 1 (2 ^ 32)) = false
    ∧ wellFormed cfgV2 (.registerUserEndpoint 1 (2 ^ 32)) = false
    ∧ wellFormed cfgV2 (.routeRegistered (msg 0 9)) = false
    ∧ wellFormed cfgV2 (.routeUnregistered (msg 0 5)) = false
    ∧ wellFormed cfgV2 (.routeUnregistered (msg 0 0)) = false := by
  decide

/-! ### Decoding: each word written out from the spec's encoding -/

/-- The write rows of the V2 map, each access word from the table: dir 1, offset of 30_encoding.md R74. -/
theorem test_decode_v2_writes :
    [(0x00, 0x10, .v2WrMaskSet .apw 0xDEADBEEF),
     (0x04, 0x10, .v2WrMaskClr .apw 0xDEADBEEF),
     (0x08, 0x10, .v2WrIopCtrl .apw 0xDEADBEEF),
     (0x10, 0x10, .v2WrIopSend0 .apw 0xDEADBEEF),
     (0x14, 0x10, .v2WrIopSend1 .apw 0xDEADBEEF),
     (0x18, 0x10, .v2WrIopRecv0 .apw 0xDEADBEEF),
     (0x1C, 0x10, .v2WrIopRecv1 .apw 0xDEADBEEF),
     (0x20, 0x10, .v2WrApCtrl .apw 0xDEADBEEF),
     (0x30, 0x10, .v2WrApSend0 .apw 0xDEADBEEF),
     (0x34, 0x10, .v2WrApSend1 .apw 0xDEADBEEF),
     (0x38, 0x10, .v2WrApRecv0 .apw 0xDEADBEEF),
     (0x3C, 0x10, .v2WrApRecv1 .apw 0xDEADBEEF)].all (fun x => decodesTo cfgV2 (.space (.window .apw)) (writeBytes x.1 x.2.1) x.2.2) = true := by
  decide

/-- The read rows of the V2 map (R74). -/
theorem test_decode_v2_reads :
    [(0x00, 0x00, .v2RdMaskSet .iopw),
     (0x04, 0x00, .v2RdMaskClr .iopw),
     (0x08, 0x00, .v2RdIopCtrl .iopw),
     (0x10, 0x00, .v2RdIopSend0 .iopw),
     (0x14, 0x00, .v2RdIopSend1 .iopw),
     (0x18, 0x00, .v2RdIopRecv0 .iopw),
     (0x1C, 0x00, .v2RdIopRecv1 .iopw),
     (0x20, 0x00, .v2RdApCtrl .iopw),
     (0x30, 0x00, .v2RdApSend0 .iopw),
     (0x34, 0x00, .v2RdApSend1 .iopw),
     (0x38, 0x00, .v2RdApRecv0 .iopw),
     (0x3C, 0x00, .v2RdApRecv1 .iopw)].all (fun x => decodesTo cfgV2 (.space (.window .iopw)) (readBytes x.1 x.2.1) x.2.2) = true := by
  decide

/-- The write rows of the V4 map (30_encoding.md R75; the control registers at the offsets of
95_test_vectors.md). -/
theorem test_decode_v4_writes :
    [(0x00, 0x10, .v4WrMaskSet .apw 0xDEADBEEF),
     (0x04, 0x10, .v4WrMaskClr .apw 0xDEADBEEF),
     (0x08, 0x10, .v4WrIopCtrl .apw 0xDEADBEEF),
     (0x20, 0x10, .v4WrApCtrl .apw 0xDEADBEEF),
     (0x00, 0x17, .v4WrIopSend0 .apw 0xDEADBEEF),
     (0x04, 0x17, .v4WrIopSend1 .apw 0xDEADBEEF),
     (0x08, 0x17, .v4WrIopSend2 .apw 0xDEADBEEF),
     (0x0C, 0x17, .v4WrIopSend3 .apw 0xDEADBEEF),
     (0x10, 0x17, .v4WrIopRecv0 .apw 0xDEADBEEF),
     (0x14, 0x17, .v4WrIopRecv1 .apw 0xDEADBEEF),
     (0x18, 0x17, .v4WrIopRecv2 .apw 0xDEADBEEF),
     (0x1C, 0x17, .v4WrIopRecv3 .apw 0xDEADBEEF),
     (0x20, 0x17, .v4WrApSend0 .apw 0xDEADBEEF),
     (0x24, 0x17, .v4WrApSend1 .apw 0xDEADBEEF),
     (0x28, 0x17, .v4WrApSend2 .apw 0xDEADBEEF),
     (0x2C, 0x17, .v4WrApSend3 .apw 0xDEADBEEF),
     (0x30, 0x17, .v4WrApRecv0 .apw 0xDEADBEEF),
     (0x34, 0x17, .v4WrApRecv1 .apw 0xDEADBEEF),
     (0x38, 0x17, .v4WrApRecv2 .apw 0xDEADBEEF),
     (0x3C, 0x17, .v4WrApRecv3 .apw 0xDEADBEEF)].all (fun x => decodesTo cfgV4 (.space (.window .apw)) (writeBytes x.1 x.2.1) x.2.2) = true := by
  decide

/-- The read rows of the V4 map (R75). -/
theorem test_decode_v4_reads :
    [(0x00, 0x00, .v4RdMaskSet .iopw),
     (0x04, 0x00, .v4RdMaskClr .iopw),
     (0x08, 0x00, .v4RdIopCtrl .iopw),
     (0x20, 0x00, .v4RdApCtrl .iopw),
     (0x00, 0x07, .v4RdIopSend0 .iopw),
     (0x04, 0x07, .v4RdIopSend1 .iopw),
     (0x08, 0x07, .v4RdIopSend2 .iopw),
     (0x0C, 0x07, .v4RdIopSend3 .iopw),
     (0x10, 0x07, .v4RdIopRecv0 .iopw),
     (0x14, 0x07, .v4RdIopRecv1 .iopw),
     (0x18, 0x07, .v4RdIopRecv2 .iopw),
     (0x1C, 0x07, .v4RdIopRecv3 .iopw),
     (0x20, 0x07, .v4RdApSend0 .iopw),
     (0x24, 0x07, .v4RdApSend1 .iopw),
     (0x28, 0x07, .v4RdApSend2 .iopw),
     (0x2C, 0x07, .v4RdApSend3 .iopw),
     (0x30, 0x07, .v4RdApRecv0 .iopw),
     (0x34, 0x07, .v4RdApRecv1 .iopw),
     (0x38, 0x07, .v4RdApRecv2 .iopw),
     (0x3C, 0x07, .v4RdApRecv3 .iopw)].all (fun x => decodesTo cfgV4 (.space (.window .iopw)) (readBytes x.1 x.2.1) x.2.2) = true := by
  decide

/-- The sixteen inbound types (30_encoding.md R81), the payload's low bytes 0x1122334455: the last byte of the
request is bits 63:56. -/
theorem test_decode_mgmt_in :
    [(0x00, .mgmtInReserved0 0x0000001122334455),
     (0x01, .mgmtInHello 0x0100001122334455),
     (0x02, .mgmtInHelloAck 0x0200001122334455),
     (0x03, .mgmtInPing 0x0300001122334455),
     (0x04, .mgmtInPingAck 0x0400001122334455),
     (0x05, .mgmtInEndpointStart 0x0500001122334455),
     (0x06, .mgmtInSetIopPowerState 0x0600001122334455),
     (0x07, .mgmtInPowerStateAck 0x0700001122334455),
     (0x08, .mgmtInRollcall 0x0800001122334455),
     (0x09, .mgmtInReserved9 0x0900001122334455),
     (0x0A, .mgmtInReserved10 0x0A00001122334455),
     (0x0B, .mgmtInSetApPowerState 0x0B00001122334455),
     (0x0C, .mgmtInReserved12 0x0C00001122334455),
     (0x0D, .mgmtInReserved13 0x0D00001122334455),
     (0x0E, .mgmtInReserved14 0x0E00001122334455),
     (0x0F, .mgmtInReserved15 0x0F00001122334455)].all (fun x => decodesTo cfgV2 .mgmtIn [0x55, 0x44, 0x33, 0x22, 0x11, 0x00, 0x00, x.1] x.2) = true := by
  decide

/-- The gaps of the V2 map (0x0C, 0x24, 0x40 and above) and of the V4 map (R154). -/
theorem test_decode_undefined :
    decodesTo cfgV2 (.space (.window .apw)) (writeBytes 0x0C 0x10) (.v2Undefined .apw .write 0x0C 0xDEADBEEF)
    ∧ decodesTo cfgV2 (.space (.window .iopw)) (readBytes 0x40 0x00) (.v2Undefined .iopw .read 0x40 0)
    ∧ decodesTo cfgV2 (.space (.window .apw)) (readBytes 0x00 0x07) (.v2Undefined .apw .read 0x700 0)
    ∧ decodesTo cfgV4 (.space (.window .apw)) (readBytes 0x10 0x00) (.v4Undefined .apw .read 0x10 0) := by
  decide

/-- Other sizes and misaligned offsets (R156): size codes 1, 2 and 3 stand for 1, 2 and 8 bytes. -/
theorem test_decode_bad_size :
    decodesTo cfgV2 (.space (.window .apw)) (readBytes 0x10 0x20) (.regBadSize (.window .apw) .read .b1 0x10 0)
    ∧ decodesTo cfgV2 (.space .control) (readBytes 0x44 0x40) (.regBadSize .control .read .b2 0x44 0)
    ∧ decodesTo cfgV2 (.space (.window .apw)) (writeBytes 0x10 0x70)
        (.regBadSize (.window .apw) .write .b8 0x10 0xDEADBEEF)
    ∧ decodesTo cfgV2 (.space (.window .apw)) (readBytes 0x12 0x00)
        (.regBadSize (.window .apw) .read .b4 0x12 0) := by
  decide

/-- The control words at their default offsets 0x44 and 0x48 (30_encoding.md R78). -/
theorem test_decode_control :
    decodesTo cfgV2 (.space .control) (writeBytes 0x44 0x10) (.ctlWrCpuCtrl 0xDEADBEEF)
    ∧ decodesTo cfgV2 (.space .control) (readBytes 0x44 0x00) .ctlRdCpuCtrl
    ∧ decodesTo cfgV2 (.space .control) (readBytes 0x48 0x00) .ctlRdCpuStatus
    ∧ decodesTo cfgV2 (.space .control) (writeBytes 0x48 0x10) (.ctlWrCpuStatus 0xDEADBEEF)
    ∧ decodesTo cfgV2 (.space .control) (readBytes 0x4C 0x00) (.ctlUndefined .read 0x4C 0) := by
  decide

/-- The outbound payloads of 95_test_vectors.md E1, E8, S5 and E5. -/
theorem test_decode_mgmt_out :
    decodesTo cfgV2 .mgmtOut [0x0B, 0x00, 0x0B, 0x00, 0x00, 0x00, 0x00, 0x01] .mgmtOutHello
    ∧ decodesTo cfgV2 .mgmtOut [0xEF, 0xBE, 0xAD, 0xDE, 0x00, 0x00, 0x00, 0x04]
        (.mgmtOutPingAck 0x04000000DEADBEEF)
    ∧ decodesTo cfgV2 .mgmtOut [0x10, 0x00, 0x00, 0x00, 0x03, 0x00, 0x00, 0x08] (.mgmtOutRollcall 0x10 3 false)
    ∧ decodesTo cfgV2 .mgmtOut [0x00, 0x00, 0x00, 0x00, 0x00, 0x00, 0x08, 0x08] (.mgmtOutRollcall 0 0 true)
    ∧ decodesTo cfgV2 .mgmtOut [0x20, 0x00, 0x00, 0x00, 0x00, 0x00, 0x00, 0x07] .mgmtOutPowerStateAck := by
  decide

/-- The transport operations and the core primitives, their operands in the layout of log entry 2. -/
theorem test_decode_transport :
    decodesTo cfgV2 (.named .mbSend) (0x01 :: imageBytes) (.mbSend .ap imageMsg)
    ∧ decodesTo cfgV2 (.named .mbRecv) [0x00] (.mbRecv .iop)
    ∧ decodesTo cfgV2 (.named .mbSetIntMask) [0x01, 0x10, 0x11, 0x00, 0x80] (.mbSetIntMask .apw 0x80001110)
    ∧ decodesTo cfgV2 (.named .mbClrIntMask) [0x00, 0x10, 0x11, 0x00, 0x80] (.mbClrIntMask .iopw 0x80001110)
    ∧ decodesTo cfgV2 (.named .mbSetDirEn) [0x01, 0x01] (.mbSetDirEn .ap true)
    ∧ decodesTo cfgV2 (.named .status) [0x01] (.status .ap)
    ∧ decodesTo cfgV2 (.named .sendToAp) imageBytes (.sendToAp imageMsg)
    ∧ decodesTo cfgV2 (.named .receiveFromAp) [] .receiveFromAp
    ∧ decodesTo cfgV2 (.named .sendToIop) imageBytes (.sendToIop imageMsg)
    ∧ decodesTo cfgV2 (.named .receiveFromIop) [] .receiveFromIop := by
  decide

/-- The interface of the engine and its events. -/
theorem test_decode_engine :
    decodesTo cfgV2 (.named .registerControlEndpoint) [0x05, 0, 0, 0, 0x09, 0, 0, 0] (.registerControlEndpoint 5 9)
    ∧ decodesTo cfgV2 (.named .registerUserEndpoint) [0x08, 0, 0, 0, 0, 0, 0, 0x80]
        (.registerUserEndpoint 8 0x80000000)
    ∧ decodesTo cfgV2 (.named .sendControlMessage) [0x05, 0, 0, 0, 0xCD, 0, 0, 0, 0, 0, 0, 0x11]
        (.sendControlMessage 5 0x11000000000000CD)
    ∧ decodesTo cfgV2 (.named .sendUserMessage) [0x08, 0, 0, 0, 0xCD, 0, 0, 0, 0, 0, 0, 0x11]
        (.sendUserMessage 8 0x11000000000000CD)
    ∧ decodesTo cfgV2 (.named .startOrWakeup) [] .startOrWakeup
    ∧ decodesTo cfgV2 (.named .buildRollcall) [] .buildRollcall
    ∧ decodesTo cfgV2 (.named .bhIop) [] .bhIop
    ∧ decodesTo cfgV2 (.named .bhAp) [] .bhAp
    ∧ decodesTo cfgV2 (.named .mgmtDispatch) [0x20, 0, 0, 0, 0, 0, 0, 0x08] (.mgmtDispatch 0x0800000000000020)
    ∧ decodesTo cfgV2 (.named .routeRegistered) [0x77, 0, 0, 0, 0, 0, 0, 0, 0x28, 0, 0, 0, 0, 0, 0, 0]
        (.routeRegistered (msg 0x77 40))
    ∧ decodesTo cfgV2 (.named .routeUnregistered) imageBytes (.routeUnregistered imageMsg)
    ∧ decodesTo cfgV2 (.named .reset) [] .reset := by
  decide

/-- Every reason to reject a request. -/
theorem test_decode_rejections :
    rejects cfgV2 (.space (.window .apw)) [0x00, 0x10] .badLength
    ∧ rejects cfgV2 (.space (.window .apw)) (readBytes 0x00 0x80) .reservedBit
    ∧ rejects cfgV2 (.space (.window .apw)) (writeBytes 0x00 0x00) .dataOnRead
    ∧ rejects cfgV2 (.space (.window .apw)) (writeBytes 0x00 0x30) .dataTooWide
    ∧ rejects cfgV2 (.space (.window .apw)) [0, 0, 0, 0, 0, 0, 0, 0, 0, 0, 1, 0, 0, 0] .outsideWindow
    ∧ rejects cfgV2 .mgmtOut [0, 0, 0, 0, 0, 0, 0, 0x01] .notEmitted
    ∧ rejects cfgV2 (.named .status) [0x02] .badQueue
    ∧ rejects cfgV2 (.named .mbSetIntMask) [0x02, 0, 0, 0, 0] .badWindow
    ∧ rejects cfgV2 (.named .mbSetDirEn) [0x00, 0x02] .badBool
    ∧ rejects cfgV2 (.named .routeRegistered) imageBytes .notThisRoute := by
  decide

/-- A bare word of the table runs as the next step: `V2.RD.IOP_CTRL` after reset (95_test_vectors.md F1, first
status). -/
theorem test_withFetchWord :
    seen State.result (step (State.reset.withFetchWord 16 0x0008)) = some (.word 0x00020001) := by
  decide

/-! ### Transport (95_test_vectors.md section 2.1) -/

/-- T1. -/
theorem test_T1_send :
    seen (fun t => (t.iop.count, statusWord t.cfg t.iop, lines .apw t, t.iop.bhPending))
      (exec (.mbSend .iop ⟨0x1122334455667788, 0x20, 0⟩) (fresh cfgV2))
      = some (1, 0x00100001, [true, false, false, true], true) := by
  decide

/-- T2. -/
theorem test_T2_receive :
    seen (fun t => (t.result, t.iop.count, statusWord t.cfg t.iop))
      (exec (.mbRecv .iop) (holding .iop [⟨0x1122334455667788, 0x20, 0⟩] (fresh cfgV2)))
      = some (.message (some ⟨0x1122334455667788, 0x20, 1⟩), 0, 0x00020001) := by
  decide

/-- T3. -/
theorem test_T3_underflow :
    seen (fun t => (t.result, statusWord t.cfg t.iop, t.trace, irq t .iopw (.nonempty .iop)))
      (exec (.mbRecv .iop) (fresh cfgV2))
      = some (.message none, 0x000A0001, [.diag (.underflow .iop)], true) := by
  decide

/-- T4. -/
theorem test_T4_disabled_send :
    seen (fun t => (t.iop.inbox, statusWord t.cfg t.iop, t.trace, t.iop.bhPending))
      (exec (.sendToIop (msg 1 2)) (enabled .iop false (fresh cfgV2)))
      = some ([], 0x00020000, [.diag (.disabledSend .iop)], false) := by
  decide

/-- T5. -/
theorem test_T5_disabled_receive :
    seen (fun t => (t.result, t.iop.underflow, t.trace))
      (exec .receiveFromAp (enabled .iop false (fresh cfgV2)))
      = some (.message none, false, [.diag (.disabledRecv .iop)]) := by
  decide

/-- T6, first receive: only the low eight bits of the flags are replaced. -/
theorem test_T6_depth_stamp :
    seen State.result
      (exec .receiveFromIop (holding .ap [⟨1, 0, 0xFFFFFF00⟩, ⟨2, 0, 0xFF⟩, ⟨3, 0, 0x12345678⟩] (fresh cfgV2)))
      = some (.message (some ⟨1, 0, 0xFFFFFF03⟩)) := by
  decide

/-- T7. -/
theorem test_T7_send_after_underflow :
    seen (fun t => (t.iop.count, statusWord t.cfg t.iop))
      (exec (.mbSend .iop (msg 1 2)) (latched .iop (fresh cfgV2))) = some (1, 0x00180001) := by
  decide

/-- T8 to T10 and T12: 14, 15, 16 and 17 messages. -/
theorem test_T8_status :
    [14, 15, 16, 17].map (fun n =>
      seen State.result (exec (.status .ap) (holding .ap (List.replicate n (msg 0 0)) (fresh cfgV2))))
      = [some (.word 0x00E00001), some (.word 0x00F10001), some (.word 0x00050001), some (.word 0x00150001)] := by
  decide

/-- T14. -/
theorem test_T14_no_callback :
    seen (fun t => (t.ap.count, t.ap.bhPending)) (exec (.sendToAp (msg 1 2)) (fresh cfgV2)) = some (1, false) := by
  decide

/-- T16, second step. -/
theorem test_T16_clear_mask :
    seen (fun t => (t.apw.intMask, t.iopw.intMask, lines .apw t))
      (exec (.mbClrIntMask .apw 0x0000FFFF)
        { fresh cfgV2 with apw := { WindowState.reset with intMask := 0xFFFFFFFF } })
      = some (0xFFFF0000, 0, [false, true, false, true]) := by
  decide

/-- T16, first step. -/
theorem test_T16_set_mask :
    seen (fun t => (t.apw.intMask, t.iopw.intMask)) (exec (.mbSetIntMask .apw 0xFFFFFFFF) (fresh cfgV2))
      = some (0xFFFFFFFF, 0) := by
  decide

theorem test_set_dir_en :
    seen (fun t => (t.ap.en, t.iop.en)) (exec (.mbSetDirEn .ap false) (fresh cfgV2)) = some (false, true) := by
  decide

/-! ### Register facade (section 2.2) -/

/-- F1. -/
theorem test_F1_staged :
    seen (fun t => (t.apw.stageIop, t.iop.count, statusWord t.cfg t.iop))
      (exec (.v2WrIopSend0 .apw 0x55667788) (fresh cfgV2))
      = some (⟨0x55667788, 0, 0, 0⟩, 0, 0x00020001) := by
  decide

/-- F2. -/
theorem test_F2_commit :
    seen (fun t => (t.iop.inbox, t.apw.stageIop))
      (exec (.v2WrIopSend1 .apw 0x11223344)
        { fresh cfgV2 with apw := { WindowState.reset with stageIop := ⟨0x55667788, 0, 0, 0⟩ } })
      = some ([⟨0x1122334455667788, 0, 0⟩], ⟨0x55667788, 0x11223344, 0, 0⟩) := by
  decide

/-- F4. -/
theorem test_F4_commit_unstaged :
    seen (fun t => t.ap.inbox) (exec (.v2WrApSend1 .apw 0x00000007) (fresh cfgV2))
      = some [⟨0x0000000700000000, 0, 0⟩] := by
  decide

/-- F6, the pop, and the trailing word 3 (the cache after the pop). -/
theorem test_F6_pop_v4 :
    seen (fun t => (t.result, t.iopw.cacheIop))
      (exec (.v4RdIopRecv0 .iopw) (holding .iop [⟨0x1122334455667788, 0x20, 0xAB00⟩] (fresh cfgV4)))
      = some (.word 0x55667788, ⟨0x55667788, 0x11223344, 0x20, 0xAB01⟩) := by
  decide

theorem test_F6_trailing_v4 :
    seen State.result
      (exec (.v4RdIopRecv3 .iopw)
        { fresh cfgV4 with iopw := { WindowState.reset with cacheIop := ⟨0x55667788, 0x11223344, 0x20, 0xAB01⟩ } })
      = some (.word 0xAB01) := by
  decide

/-- F7 and F8: the empty pop latches the underflow and zeroes a stale cache. -/
theorem test_F8_empty_pop :
    seen (fun t => (t.result, t.apw.cacheAp, statusWord t.cfg t.ap))
      (exec (.v2RdApRecv0 .apw)
        { fresh cfgV2 with apw := { WindowState.reset with cacheAp := ⟨0xAAAAAAAA, 0xBBBBBBBB, 0, 0⟩ } })
      = some (.word 0, ⟨0, 0, 0, 0⟩, 0x000A0001) := by
  decide

/-- F9, third step: the cache of the window that reads. -/
theorem test_F9_own_cache :
    seen State.result
      (exec (.v2RdApRecv1 .apw)
        { fresh cfgV2 with
          apw := { WindowState.reset with cacheAp := ⟨1, 2, 0, 0⟩ }
          iopw := { WindowState.reset with cacheAp := ⟨3, 4, 0, 0⟩ } })
      = some (.word 2) := by
  decide

/-- F10. -/
theorem test_F10_disable :
    seen (fun t => (t.ap.en, statusWord t.cfg t.ap)) (exec (.v2WrApCtrl .apw 0xFFFFFFFE) (fresh cfgV2))
      = some (false, 0x00020000) := by
  decide

/-- F11. -/
theorem test_F11_enable :
    seen (fun t => (t.ap.en, statusWord t.cfg t.ap))
      (exec (.v4WrApCtrl .apw 0x000F0001) (enabled .ap false (fresh cfgV4))) = some (true, 0x00020001) := by
  decide

/-- F12, the read. -/
theorem test_F12_control_read :
    seen State.result (exec (.v2RdIopCtrl .apw) (enabled .iop false (fresh cfgV2))) = some (.word 0x00020000) := by
  decide

/-- F13, second step. -/
theorem test_F13_mask_clear :
    seen (fun t => (t.apw.intMask, t.iopw.intMask))
      (exec (.v2WrMaskClr .apw 0x00001000)
        { fresh cfgV2 with apw := { WindowState.reset with intMask := 0x00001010 } }) = some (0x10, 0) := by
  decide

/-- F15. -/
theorem test_F15_refused :
    refusal (exec (.v2Undefined .apw .read 0x0C 0) (fresh cfgV2)) = some .undefinedOffset
    ∧ refusal (exec (.v2WrApRecv0 .apw 0) (fresh cfgV2)) = some .receiveWordWrite
    ∧ refusal (exec (.regBadSize (.window .apw) .read .b8 0x38 0) (fresh cfgV2)) = some .badAccess := by
  decide

/-- F16, the commit. -/
theorem test_F16_commit_v4 :
    seen (fun t => t.ap.inbox) (exec (.v4WrApSend3 .apw 0x5) (fresh cfgV4)) = some [⟨0, 0, 5⟩] := by
  decide

/-! ### A7IOP core (section 2.3) -/

/-- C1. -/
theorem test_C1_status :
    seen State.result (exec .ctlRdCpuStatus (fresh cfgV2)) = some (.word 1) := by
  decide

/-- C2: no engine attached. -/
theorem test_C2_run :
    seen (fun t => (t.runState, t.cpuCtrl, t.ap.inbox))
      (exec (.ctlWrCpuCtrl 0x10) (fresh { cfgV2 with hookTarget := .nothing })) = some (.running, 0x10, []) := by
  decide

/-- C3 and C4: the run bit clear, from idle and from running. -/
theorem test_C3_no_run :
    seen (fun t => (t.runState, t.cpuCtrl)) (exec (.ctlWrCpuCtrl 1) (fresh cfgV2)) = some (.idle, 1)
    ∧ seen (fun t => (t.runState, t.cpuCtrl))
        (exec (.ctlWrCpuCtrl 0) { fresh cfgV2 with runState := .running, cpuCtrl := 0x10 })
        = some (.running, 0) := by
  decide

/-! ### RTBuddy engine (section 2.4) -/

/-- E1. -/
theorem test_E1_start :
    seen (fun t => (t.ap.inbox, t.ep0Status)) (exec .startOrWakeup (fresh cfgV2))
      = some ([msg 0x01000000000B000B 0], .waitHello) := by
  decide

/-- E2. -/
theorem test_E2_wakeup :
    seen (fun t => (t.ap.inbox, t.ep0Status, t.trace))
      (exec .startOrWakeup { fresh cfgV2 with ep0Status := .waitHello })
      = some ([], .waitHello, [.diag (.startNotIdle .waitHello)]) := by
  decide

/-- E3, with the payloads of S5. -/
theorem test_E3_hello_ack :
    seen (fun t => (t.ap.inbox, t.ep0Status, t.rollcallQ))
      (exec (.mgmtInHelloAck 0x02000000000B000B) { fresh cfgV2 with ep0Status := .waitHello })
      = some ([msg 0x0800000000000020 0], .waitRollcall,
          [0x0800000100000100, 0x0800000200000040, 0x0800000300000010, 0x0808000000000000]) := by
  decide

/-- E5. -/
theorem test_E5_last_echo :
    seen (fun t => (t.ap.inbox, t.ep0Status))
      (exec (.mgmtInRollcall 0x0808000000000000) { fresh cfgV2 with ep0Status := .waitRollcall })
      = some ([msg 0x0700000000000020 0], .idle) := by
  decide

/-- E6 and E7. -/
theorem test_E6_desync :
    seen (fun t => (t.ap.inbox, t.trace)) (exec (.mgmtInHelloAck 0x0200000000000000) (fresh cfgV2))
      = some ([], [.diag (.desync 2 .idle)])
    ∧ seen (fun t => (t.ap.inbox, t.trace))
        (exec (.mgmtInRollcall 0x0800000000000000) { fresh cfgV2 with ep0Status := .waitHello })
        = some ([], [.diag (.desync 8 .waitHello)]) := by
  decide

/-- E9. -/
theorem test_E9_ping :
    seen (fun t => (t.ap.inbox, t.ep0Status))
      (exec (.mgmtInPing 0x03FFFFFFFFFFFFFF) { fresh cfgV2 with ep0Status := .waitHello })
      = some ([msg 0x04FFFFFFFFFFFFFF 0], .waitHello) := by
  decide

/-- E10, by the dispatch. -/
theorem test_E10_dropped :
    seen (fun t => (t.ap.inbox, t.trace)) (exec (.mgmtDispatch 0x0B00000000000001) (fresh cfgV2))
      = some ([], [.diag (.mgmtDropped 11)]) := by
  decide

/-- E11 to E13 in one run of the callback. -/
theorem test_E11_routing :
    seen (fun t => (t.trace, t.iop.count, t.iop.bhPending))
      (exec .bhIop (pending [msg 0x77 40, msg 0x1234 5, msg 0x99 9, msg 0x99 0xFFFFFFFF] (fresh cfgV2)))
      = some ([.deliver 2 8 true 0x77, .deliver 1 5 false 0x1234, .diag (.unregisteredEp 9),
          .diag (.unregisteredEp 0xFFFFFFFF)], 0, false) := by
  decide

/-- E14. -/
theorem test_E14_reply :
    seen (fun t => (t.ap.inbox, t.replies))
      (exec (.routeRegistered (msg 0x77 40)) { fresh cfgV2 with replies := [[.user 8 0xCD]] })
      = some ([msg 0xCD 40], []) := by
  decide

/-- E15. -/
theorem test_E15_rollcall :
    seen State.result (exec .buildRollcall (fresh { cfgV2 with
      registry := [⟨31, 0, false⟩, ⟨32, 0, true⟩, ⟨63, 0, true⟩, ⟨64, 0, true⟩, ⟨2047, 0, true⟩] }))
      = some (.payloads [0x0800000080000000, 0x0800000180000001, 0x0800000200000001, 0x0800003F80000000,
          0x0808000000000000]) := by
  decide

/-- E17. -/
theorem test_E17_disabled_hello :
    seen (fun t => (t.ap.inbox, t.ep0Status, t.trace)) (exec .startOrWakeup (enabled .ap false (fresh cfgV2)))
      = some ([], .waitHello, [.diag (.disabledSend .ap)]) := by
  decide

/-- E18. -/
theorem test_E18_disabled_callback :
    seen (fun t => (t.iop.count, t.iop.bhPending, t.trace))
      (exec .bhIop (enabled .iop false (pending [msg 1 5] (fresh cfgV2)))) = some (1, false, []) := by
  decide

/-- Registrations of P3: `register_user_endpoint(8, h40)` adds wire id 40, in order. -/
theorem test_P3_register :
    seen (fun t => t.cfg.registry)
      (exec (.registerUserEndpoint 8 2) (fresh { cfgV2 with registry := [⟨5, 1, false⟩, ⟨70, 3, true⟩] }))
      = some [⟨5, 1, false⟩, ⟨40, 2, true⟩, ⟨70, 3, true⟩]
    ∧ refusal (exec (.registerControlEndpoint 5 9) (fresh cfgV2)) = some .duplicateRegistration := by
  decide

/-- 43_rtbuddy_engine.md R194, R195: endpoint 31, endpoint 2015 + 32, and the first ids refused. -/
theorem test_consumer_sends :
    seen (fun t => t.ap.inbox) (exec (.sendControlMessage 31 7) (fresh cfgV2)) = some [msg 7 31]
    ∧ seen (fun t => t.ap.inbox) (exec (.sendUserMessage 2015 7) (fresh cfgV2)) = some [msg 7 2047]
    ∧ refusal (exec (.sendControlMessage 32 7) (fresh cfgV2)) = some .endpointIdOutOfRange
    ∧ refusal (exec (.sendUserMessage 2016 7) (fresh cfgV2)) = some .endpointIdOutOfRange := by
  decide

/-! ### Interrupt lines (section 2.5) and reset (section 2.6) -/

/-- I1, all eight rows: (count > 0, mask bit, underflow, line). -/
theorem test_I1_truth_table :
    [(false, false, false, false), (false, true, false, false), (true, false, false, true),
     (true, true, false, false), (false, false, true, true), (false, true, true, true),
     (true, false, true, true), (true, true, true, true)].all (fun x =>
      irq { fresh cfgV2 with
          iop := { QueueState.reset with
            inbox := if x.1 then [msg 0 0] else [], count := if x.1 then 1 else 0, underflow := x.2.2.1 }
          apw := { WindowState.reset with intMask := if x.2.1 then 0x10 else 0 } }
        .apw (.nonempty .iop) == x.2.2.2) = true := by
  decide

/-- I3. -/
theorem test_I3_masked_lines :
    seen (fun t => (lines .apw t, lines .iopw t)) (exec (.v2WrMaskSet .apw 0x00000101) (fresh cfgV2))
      = some ([false, false, false, false], [false, true, false, true]) := by
  decide

/-- X1, on a state that differs from reset in every kind of element. -/
theorem test_X1_reset :
    seen id (exec .reset
        { latched .ap (enabled .iop false (pending [msg 1 2] (fresh cfgV2))) with
          apw := ⟨0x1111, ⟨1, 2, 3, 4⟩, ⟨1, 2, 3, 4⟩, ⟨1, 2, 3, 4⟩, ⟨1, 2, 3, 4⟩⟩
          runState := .running, cpuCtrl := 0x10, ep0Status := .waitRollcall, rollcallQ := [1, 2, 3] })
      = some (fresh cfgV2) := by
  decide

/-- 10_state.md R24 and 20_memory.md R58 for queue AP of a channel without the engine: a send makes its callback
pending, and with no request left the next step is the callback's run, which clears the flag and keeps the
message. -/
theorem test_callback_of_queue_ap :
    (match exec (.mbSend .ap (msg 1 2)) (fresh { cfgV2 with hookTarget := .nothing, bhRegisteredAp := true }) with
      | .next t => t.ap.bhPending && seen (fun u => (u.ap.bhPending, u.ap.count)) (step t) == some (false, 1)
      | _ => false) = true := by
  decide

/-! ### Witnesses: states and operands that meet the hypotheses of each statement -/

/-- A channel in use: messages in both queues, a pending callback, a script of replies at the largest ids,
the engine in the middle of its rollcall, the core running. -/
def busy : State :=
  { pending [msg 0x77 40, msg 0x08 0] (holding .ap [msg 1 0, msg 2 5] (fresh cfgV2)) with
    runState := .running
    ep0Status := .waitRollcall
    rollcallQ := [0x0800000100000100]
    replies := [[.user 2015 1, .control 31 2]]
    inputs := [⟨.space .control, readBytes 0x44 0x00⟩] }

/-- `busy` after its requests. -/
def quiet : State := { busy with inputs := [] }

/-- A channel without the engine, with a callback on queue AP only, and that callback pending. -/
def engineless : State :=
  { holding .ap [msg 1 0] (fresh { cfgV2 with hookTarget := .nothing, bhRegisteredIop := false, bhRegisteredAp := true })
      with ap := { inbox := [msg 1 0], count := 1, underflow := false, en := true, bhPending := true } }

theorem busy_replies : RepliesAdmitted busy := by
  simp [busy, RepliesAdmitted, ReplyAdmitted]

theorem witness_DecodeInvertsEncode :
    (cfgV2.Wf ∧ wellFormed cfgV2 (.v2WrIopSend1 .apw 0xFFFFFFFF) = true)
    ∧ (cfgV4.Wf ∧ wellFormed cfgV4 (.v4Undefined .iopw .write 0xFFC 1) = true)
    ∧ wellFormed cfgV4 (.mgmtOutRollcall 0x80000000 63 false) = true :=
  ⟨⟨by decide, by decide⟩, ⟨by decide, by decide⟩, by decide⟩

theorem witness_EncodeInvertsDecode :
    decode cfgV2 ⟨.space .control, readBytes 0x44 0x00⟩ = .ok .ctlRdCpuCtrl := rfl

theorem witness_DecodedOperationsAreWellFormed :
    decode cfgV4 ⟨.space (.window .apw), readBytes 0x3C 0x07⟩ = .ok (.v4RdApRecv3 .apw) := rfl

theorem witness_StepRunsDecodedRequest :
    busy.inputs = [⟨.space .control, readBytes 0x44 0x00⟩]
    ∧ decode busy.cfg ⟨.space .control, readBytes 0x44 0x00⟩ = .ok .ctlRdCpuCtrl := ⟨rfl, rfl⟩

theorem witness_UndecodableRequestIsRefused :
    ({ busy with inputs := [⟨.named .status, [2]⟩] } : State).inputs = [⟨.named .status, [2]⟩]
    ∧ decode busy.cfg ⟨.named .status, [2]⟩ = .error .badQueue := ⟨rfl, rfl⟩

theorem witness_IdleChannelDoesNotChange :
    (fresh cfgV2).inputs = [] ∧ (fresh cfgV2).iop.bhPending = false ∧ (fresh cfgV2).ap.bhPending = false :=
  ⟨rfl, rfl, rfl⟩

theorem witness_PendingCallbackRuns :
    (quiet.inputs = [] ∧ quiet.iop.bhPending = true ∧ RepliesAdmitted quiet)
    ∧ engineless.inputs = [] ∧ engineless.iop.bhPending = false ∧ engineless.ap.bhPending = true :=
  ⟨⟨rfl, rfl, busy_replies⟩, rfl, rfl, rfl⟩

theorem witness_StepKeepsChannelInvariant :
    (Machine.Inv busy ∧ ∃ t, step busy = .next t) ∧ Machine.Inv engineless ∧ ∃ t, step engineless = .next t :=
  ⟨⟨by decide, _, rfl⟩, by decide, _, rfl⟩

theorem witness_StepKeepsV2SlotsNarrow : V2Narrow busy ∧ busy.cfg.gen = .v2 ∧ ∃ t, step busy = .next t :=
  ⟨by decide, rfl, _, rfl⟩

theorem witness_UnderflowIsSticky :
    Instr.mbRecv .ap ≠ .reset ∧ (∃ t, exec (.mbRecv .ap) (latched .ap busy) = .next t)
    ∧ ((latched .ap busy).queue .ap).underflow = true := ⟨by decide, ⟨_, rfl⟩, rfl⟩

theorem witness_LatchedQueueLosesNothing :
    Instr.bhIop ≠ .reset ∧ (∃ t, exec .bhIop (latched .iop busy) = .next t)
    ∧ ((latched .iop busy).queue .iop).underflow = true := ⟨by decide, ⟨_, rfl⟩, rfl⟩

theorem witness_QueueOnlyGrowsUnlessReceived :
    Instr.v2WrIopSend1 .apw 7 ≠ .reset ∧ receivesFrom (.v2WrIopSend1 .apw 7) .iop = false
    ∧ ∃ t, exec (.v2WrIopSend1 .apw 7) busy = .next t := ⟨by decide, rfl, _, rfl⟩

theorem witness_RunStateIsSticky :
    Instr.ctlWrCpuCtrl 0 ≠ .reset ∧ (∃ t, exec (.ctlWrCpuCtrl 0) busy = .next t)
    ∧ busy.runState = .running := ⟨by decide, ⟨_, rfl⟩, rfl⟩

theorem witness_ConfigurationIsFixed :
    isRegistration .bhIop = false ∧ ∃ t, exec .bhIop busy = .next t := ⟨rfl, _, rfl⟩

theorem witness_WindowsDoNotInterfere :
    Instr.v2WrMaskSet .apw 1 ≠ .reset ∧ actsThrough (.v2WrMaskSet .apw 1) ≠ some .iopw
    ∧ ∃ t, exec (.v2WrMaskSet .apw 1) busy = .next t := ⟨by decide, by decide, _, rfl⟩

/-- No request; an accepted request (the last id admitted, the first of the pending callback's); a request that is
not accepted (the first id refused); a list of requests accepted in every state. -/
theorem witness_AcceptedRunNeverStops :
    RepliesAdmitted busy ∧ RepliesAdmitted quiet ∧ quiet.inputs = []
    ∧ decode busy.cfg ⟨.named .sendUserMessage, [0xDF, 0x07, 0, 0, 1, 0, 0, 0, 0, 0, 0, 0]⟩
      = .ok (.sendUserMessage 2015 1)
    ∧ accepted busy (.sendUserMessage 2015 1) = true ∧ accepted busy (.sendUserMessage 2016 1) = false
    ∧ accepted busy .bhIop = true ∧ accepted (fresh cfgV2) .bhIop = false
    ∧ accepted engineless .bhAp = true
    ∧ accepted (fresh cfgV2) (.registerUserEndpoint 2015 1) = true
    ∧ ∀ r ∈ busy.inputs, ∃ i, decode busy.cfg r = .ok i ∧ ∀ u : State, accepted u i = true := by
  refine ⟨busy_replies, busy_replies, rfl, rfl, rfl, rfl, rfl, rfl, rfl, rfl, ?_⟩
  intro r hr
  rw [List.mem_singleton.mp hr]
  exact ⟨.ctlRdCpuCtrl, rfl, fun _ => rfl⟩

theorem witness_MaskSetOrsIntoTheMask :
    Instr.mbSetIntMask .apw 1 ∈ [Instr.v2WrMaskSet .apw 1, .v4WrMaskSet .apw 1, .mbSetIntMask .apw 1] := by
  decide

theorem witness_MaskClrClearsInTheMask :
    Instr.v4WrMaskClr .apw 1 ∈ [Instr.v2WrMaskClr .apw 1, .v4WrMaskClr .apw 1, .mbClrIntMask .apw 1] := by
  decide

/-- A written bit (12, AP nonempty), a bit not written (0, IOP empty), the other window. -/
theorem witness_MaskedLinesFall :
    (∃ t, exec (.mbSetIntMask .apw 0x1000) busy = .next t)
    ∧ (∃ t, exec (.mbClrIntMask .apw 0x1000) busy = .next t)
    ∧ (0x1000 : Word).getLsbD (irqBit busy.cfg (.nonempty .ap)) = true
    ∧ (0x1000 : Word).getLsbD (irqBit busy.cfg (.empty .iop)) = false
    ∧ Win.iopw ≠ .apw := ⟨⟨_, rfl⟩, ⟨_, rfl⟩, by decide, by decide, by decide⟩

theorem witness_UnconstrainedReadsChangeNothing : Instr.v4RdApSend3 .iopw ∈ freeReads .iopw := by decide

theorem witness_ControlReadReturnsStatusFields :
    Config.BitsWf busy.cfg ∧ Instr.v4RdApCtrl .apw ∈ controlReads .apw .ap
    ∧ Instr.status .iop ∈ controlReads .iopw .iop := by
  decide

theorem witness_ControlWriteSetsOnlyTheEnable :
    Instr.v4WrIopCtrl .apw 0xFFFFFFFE ∈ controlWrites .apw .iop 0xFFFFFFFE
    ∧ Instr.v2WrApCtrl .apw 1 ∈ controlWrites .apw .ap 1 := by
  decide

theorem witness_StagedWordIsOnlyBuffered :
    Instr.v4WrIopSend0 .apw 1 ∈ [Instr.v2WrIopSend0 .apw 1, .v4WrIopSend0 .apw 1]
    ∧ Instr.v2WrApSend0 .iopw 1 ∈ [Instr.v2WrApSend0 .iopw 1, .v4WrApSend0 .iopw 1] := by
  decide

/-- Disabled; latched; empty; one message. -/
theorem witness_PopReadFillsTheCache :
    (((enabled .ap false busy).queue .ap).en = false)
    ∧ (((latched .ap busy).queue .ap).en = true ∧ ((latched .ap busy).queue .ap).underflow = true)
    ∧ (((fresh cfgV2).queue .ap).en = true ∧ ((fresh cfgV2).queue .ap).underflow = false
      ∧ ((fresh cfgV2).queue .ap).count = 0)
    ∧ (((holding .ap [msg 1 2] busy).queue .ap).en = true
      ∧ ((holding .ap [msg 1 2] busy).queue .ap).underflow = false
      ∧ ((holding .ap [msg 1 2] busy).queue .ap).count ≠ 0
      ∧ ((holding .ap [msg 1 2] busy).queue .ap).inbox = [msg 1 2]) := by
  decide

/-- The width 32, and the last bit of the field and the first above it. -/
theorem witness_DepthStampReplacesOnlyItsField :
    ({ cfgV2 with flagsDepthWidth := 32 } : Config).flagsDepthWidth ≤ 32
    ∧ cfgV2.flagsDepthWidth ≤ 32 ∧ 7 < cfgV2.flagsDepthWidth ∧ cfgV2.flagsDepthWidth ≤ 8 := by
  decide

/-- Operations that are no pop of the window and queue: a pop through the other window, and a send. -/
theorem witness_TrailingReadsRepeatTheCache :
    (Instr.v2RdIopRecv1 .apw, busy.apw.cacheIop.w1) ∈ trailingReads .apw .iop busy.apw.cacheIop
    ∧ (∀ i ∈ [Instr.v2RdIopRecv0 .iopw, .v2WrIopSend1 .apw 3],
      i ≠ .reset ∧ i ≠ popRead .v2 .apw .iop ∧ i ≠ popRead .v4 .apw .iop)
    ∧ ∃ t, execAll [.v2RdIopRecv0 .iopw, .v2WrIopSend1 .apw 3] busy = some t :=
  ⟨by decide, by decide, _, rfl⟩

theorem witness_MessageRoundTripsThroughAWindow :
    ((fresh cfgV4).queue .ap).en = true ∧ ((fresh cfgV4).queue .ap).underflow = false
    ∧ ((fresh cfgV4).queue .ap).count = 0 ∧ ((fresh cfgV4).queue .ap).inbox = [] := by
  decide

theorem witness_DisabledDirectionScenario :
    (enabled .iop false (fresh cfgV2)).iop.en = false ∧ (enabled .iop false (fresh cfgV2)).iop.count = 0 := by
  decide

theorem witness_ReceiveWordWritesAreRefused : Instr.v4WrApRecv3 .apw 1 ∈ receiveWordWrites .apw 1 := by decide

/-- Disabled; latched; empty; one message; for both operations of the queue. -/
theorem witness_ReceiveReturnsTheOldestMessage :
    (Instr.receiveFromIop ∈ [Instr.mbRecv .ap, .receiveFromIop])
    ∧ (((enabled .ap false busy).queue .ap).en = false)
    ∧ (((latched .ap busy).queue .ap).en = true ∧ ((latched .ap busy).queue .ap).underflow = true)
    ∧ (((fresh cfgV2).queue .ap).en = true ∧ ((fresh cfgV2).queue .ap).underflow = false
      ∧ ((fresh cfgV2).queue .ap).count = 0)
    ∧ (((holding .ap [msg 1 2] busy).queue .ap).en = true
      ∧ ((holding .ap [msg 1 2] busy).queue .ap).underflow = false
      ∧ ((holding .ap [msg 1 2] busy).queue .ap).count ≠ 0
      ∧ ((holding .ap [msg 1 2] busy).queue .ap).inbox = [msg 1 2]) := by
  decide

theorem witness_QueueRefinesTheIdealFifo :
    (busy.queue .ap).en = true ∧ (busy.queue .ap).underflow = false ∧ QueueConsistent (busy.queue .ap)
    ∧ busy.cfg.flagsDepthWidth ≤ 32 := by
  decide

theorem witness_PushesBeyondTheDepthAreKept :
    Config.BitsWf busy.cfg ∧ (busy.queue .ap).en = true ∧ QueueConsistent (busy.queue .ap) := by
  decide

theorem witness_InterruptLineConsequences :
    (permit busy .apw (.empty .ap) = true ∧ permit busy .apw (.nonempty .ap) = true
      ∧ (busy.queue .ap).underflow = false)
    ∧ (∃ t, exec .reset busy = .next t)
    ∧ ((latched .ap busy).queue .ap).underflow = true
    ∧ ∃ t, exec (.mbSetIntMask .apw 0xFFFFFFFF) (latched .ap busy) = .next t :=
  ⟨by decide, ⟨_, rfl⟩, rfl, _, rfl⟩

/-- Run bit clear; set without an engine; set with the engine. -/
theorem witness_CpuControlWriteRunsTheCore :
    ((0xFFFFFFEF : Word).getLsbD busy.cfg.cpuCtrlRunBit = false)
    ∧ ((0x10 : Word).getLsbD cfgV2.cpuCtrlRunBit = true
      ∧ (fresh { cfgV2 with hookTarget := .nothing }).cfg.hookTarget = .nothing)
    ∧ ((0x10 : Word).getLsbD busy.cfg.cpuCtrlRunBit = true ∧ busy.cfg.hookTarget = .engine) := by
  decide

theorem witness_RunStateTransitionTable :
    ((0xFFFFFFEF : Word).getLsbD busy.cfg.cpuCtrlRunBit = false)
    ∧ ((0x10 : Word).getLsbD busy.cfg.cpuCtrlRunBit = true ∧ busy.cfg.hookTarget = .engine)
    ∧ (fresh { cfgV2 with hookTarget := .nothing }).cfg.hookTarget = .nothing
    ∧ Instr.startOrWakeup ≠ .reset ∧ (∀ val, Instr.startOrWakeup ≠ .ctlWrCpuCtrl val)
    ∧ (∃ t, exec .startOrWakeup busy = .next t)
    ∧ (∃ t, exec (.mbSend .ap (msg 1 2)) busy = .next t) ∧ (∃ t, exec (.mbRecv .ap) busy = .next t) :=
  ⟨by decide, by decide, rfl, by decide, fun _ h => Instr.noConfusion h, ⟨_, rfl⟩, ⟨_, rfl⟩, ⟨_, rfl⟩⟩

/-- `IDLE`; not `IDLE`; a bit (32) outside all three fields of the hello payload. -/
theorem witness_StartSendsHello :
    ((fresh cfgV2).ep0Status = .idle ∧ Config.PayloadWf (fresh cfgV2).cfg
      ∧ ¬(cfgV2.mgmtTypeLsb ≤ 32 ∧ 32 < cfgV2.mgmtTypeLsb + 4)
      ∧ ¬(cfgV2.helloMajorLsb ≤ 32 ∧ 32 < cfgV2.helloMajorLsb + 16)
      ∧ ¬(cfgV2.helloMinorLsb ≤ 32 ∧ 32 < cfgV2.helloMinorLsb + 16))
    ∧ busy.ep0Status ≠ .idle := by
  decide

theorem witness_HelloAckSendsFirstRollcall :
    ({ busy with ep0Status := .waitHello } : State).ep0Status = .waitHello ∧ busy.ep0Status ≠ .waitHello := by
  decide

/-- A list with one message left; the empty list; outside `WAIT_ROLLCALL`. -/
theorem witness_RollcallEchoAdvances :
    (busy.ep0Status = .waitRollcall ∧ busy.rollcallQ = [0x0800000100000100])
    ∧ ({ busy with rollcallQ := [] } : State).rollcallQ = []
    ∧ (fresh cfgV2).ep0Status ≠ .waitRollcall := by
  decide

theorem witness_BringUpSendsTheWholeRollcall :
    ({ fresh cfgV2 with ep0Status := .waitHello } : State).ep0Status = .waitHello
    ∧ (fresh cfgV2).ap.en = true
    ∧ ([1, 2, 3, 4, 5] : List Payload).length = (buildRollcall (fresh cfgV2).cfg).length := by
  decide

/-- Registered and unregistered ids at the ends of the range. -/
theorem witness_RollcallCoversExactlyTheRegistry :
    ({ cfgV2 with registry := [⟨1, 0, false⟩, ⟨2047, 0, true⟩] } : Config).Wf ∧ 2047 < 2048 ∧ 0 < 2048
    ∧ ¬(cfgV2.mgmtTypeLsb ≤ 60 ∧ 60 < cfgV2.mgmtTypeLsb + 4)
    ∧ ¬(cfgV2.rollcallMaskLsb ≤ 60 ∧ 60 < cfgV2.rollcallMaskLsb + 32)
    ∧ ¬(cfgV2.rollcallBlockLsb ≤ 60 ∧ 60 < cfgV2.rollcallBlockLsb + 6) ∧ 60 ≠ cfgV2.rollcallEndedBit :=
  ⟨by decide, by decide, by decide, by decide, by decide, by decide, by decide⟩

/-- The first bits outside the type field of the ping-ack. -/
theorem witness_PingIsAlwaysAnswered :
    Config.PayloadWf busy.cfg ∧ ¬(busy.cfg.mgmtTypeLsb ≤ 55 ∧ 55 < busy.cfg.mgmtTypeLsb + 4)
    ∧ ¬(busy.cfg.mgmtTypeLsb ≤ 60 ∧ 60 < busy.cfg.mgmtTypeLsb + 4) := by
  decide

theorem witness_OtherManagementTypesAreDropped : Instr.mgmtInReserved15 1 ∈ droppedTypes 1 := by decide

/-- Bit 63 lies outside every field of every payload; bit 55 outside the type field. -/
theorem witness_OutboundPayloadsAreSent :
    Config.PayloadWf cfgV2
    ∧ ¬(cfgV2.mgmtTypeLsb ≤ 63 ∧ 63 < cfgV2.mgmtTypeLsb + 4) ∧ ¬(cfgV2.mgmtTypeLsb ≤ 55 ∧ 55 < cfgV2.mgmtTypeLsb + 4)
    ∧ ¬(cfgV2.helloMajorLsb ≤ 63 ∧ 63 < cfgV2.helloMajorLsb + 16)
    ∧ ¬(cfgV2.helloMinorLsb ≤ 63 ∧ 63 < cfgV2.helloMinorLsb + 16)
    ∧ ¬(cfgV2.rollcallMaskLsb ≤ 63 ∧ 63 < cfgV2.rollcallMaskLsb + 32)
    ∧ ¬(cfgV2.rollcallBlockLsb ≤ 63 ∧ 63 < cfgV2.rollcallBlockLsb + 6) ∧ 63 ≠ cfgV2.rollcallEndedBit
    ∧ ¬(cfgV2.pwrStateLsb ≤ 63 ∧ 63 < cfgV2.pwrStateLsb + cfgV2.pwrStateWidth) := by
  decide

theorem witness_Ep0TransitionsOnlyByTheTable :
    (mayChangeEp0 (.mgmtInPing 1) = false ∧ ∃ t, exec (.mgmtInPing 1) busy = .next t)
    ∧ (Instr.startOrWakeup ∈ [Instr.startOrWakeup] ∧ ∃ t, exec .startOrWakeup (fresh cfgV2) = .next t)
    ∧ (∃ t, exec (.mgmtDispatch 0x0800000000000000) busy = .next t)
    ∧ ((msg 0x77 40).endpoint ≠ 0 ∧ ∃ t, exec (.routeRegistered (msg 0x77 40)) busy = .next t) :=
  ⟨⟨rfl, _, rfl⟩, ⟨by decide, _, rfl⟩, ⟨_, rfl⟩, by decide, _, rfl⟩

/-- The last id admitted and the first refused, for both kinds. -/
theorem witness_ConsumerSendsOnItsEndpoint :
    (31 : Word).toNat < 32 ∧ 32 ≤ (32 : Word).toNat ∧ (2015 : Word).toNat ≤ 2015
    ∧ 2015 < (2016 : Word).toNat := by
  decide

/-- Admitted ids at the ends of both ranges, on a fresh channel; ids just outside; a channel that has taken
a step; a registered id. -/
theorem witness_RegistrationAddsOneEndpoint :
    (1 ≤ (1 : Word).toNat ∧ (31 : Word).toNat ≤ 31 ∧ (0 : Word).toNat ≤ 2015 ∧ (2015 : Word).toNat ≤ 2015)
    ∧ (fresh cfgV2).live = false ∧ lookupEndpoint (fresh cfgV2).cfg.registry 31 = none
    ∧ lookupEndpoint (fresh cfgV2).cfg.registry 2047 = none ∧ Config.RegistryWf (fresh cfgV2).cfg.registry
    ∧ ¬(1 ≤ (0 : Word).toNat ∧ (0 : Word).toNat ≤ 31) ∧ ¬(1 ≤ (32 : Word).toNat ∧ (32 : Word).toNat ≤ 31)
    ∧ ¬((2016 : Word).toNat ≤ 2015)
    ∧ ({ fresh cfgV2 with live := true } : State).live = true
    ∧ lookupEndpoint (fresh cfgV2).cfg.registry 5 ≠ none ∧ lookupEndpoint (fresh cfgV2).cfg.registry 40 ≠ none := by
  decide

theorem witness_RouteDeliversToTheHandler :
    ((msg 0x08 0).endpoint = 0)
    ∧ ((msg 0x77 40).endpoint ≠ 0
      ∧ lookupEndpoint busy.cfg.registry (msg 0x77 40).endpoint.toNat = some ⟨40, 2, true⟩
      ∧ ∀ r ∈ busy.replies.headD [], ReplyAdmitted r)
    ∧ (∃ r ∈ ({ busy with replies := [[.user 2016 0]] } : State).replies.headD [], ¬ReplyAdmitted r)
    ∧ ((msg 0x99 9).endpoint ≠ 0 ∧ lookupEndpoint busy.cfg.registry (msg 0x99 9).endpoint.toNat = none) := by
  refine ⟨rfl, ⟨by decide, by decide, ?_⟩, ⟨.user 2016 0, by decide, ?_⟩, by decide⟩
  · simp [busy, ReplyAdmitted]
  · simp [ReplyAdmitted]

/-- Enabled; disabled; latched. -/
theorem witness_CallbackDrainsQueueIop :
    (busy.iop.bhPending = true ∧ RepliesAdmitted busy ∧ QueueConsistent busy.iop
      ∧ busy.iop.en = true ∧ busy.iop.underflow = false)
    ∧ (enabled .iop false busy).iop.bhPending = true ∧ (enabled .iop false busy).iop.en = false
    ∧ (latched .iop busy).iop.bhPending = true ∧ (latched .iop busy).iop.underflow = true
    ∧ (pending [] busy).iop.bhPending = true ∧ QueueConsistent (pending [] busy).iop
    ∧ (pending [] busy).iop.inbox = [] :=
  ⟨⟨rfl, busy_replies, rfl, rfl, rfl⟩, rfl, rfl, rfl, rfl, rfl, rfl, rfl⟩

theorem witness_CallbackRoutesInOrder :
    busy.iop.bhPending = true ∧ busy.iop.en = true ∧ busy.iop.underflow = false ∧ QueueConsistent busy.iop
    ∧ busy.iop.inbox = [msg 0x77 40, msg 0x08 0] ∧ ∃ t, exec .bhIop busy = .next t :=
  ⟨rfl, rfl, rfl, rfl, rfl, _, rfl⟩

theorem witness_CallbackNeedsToBePending :
    (fresh cfgV2).iop.bhPending = false ∧ (fresh cfgV2).ap.bhPending = false ∧ engineless.ap.bhPending = true :=
  ⟨rfl, rfl, rfl⟩

theorem witness_ResetIsIdempotent :
    (∃ t, exec .reset busy = .next t) ∧ ∃ t, exec .reset (fresh cfgV4) = .next t := ⟨⟨_, rfl⟩, _, rfl⟩

end Sys2Proof.Tests
end

section
/-! PROOFS. The scope of a step (00_scope.md R8): what the next request makes of it. -/

namespace Sys2Proof.Machine

theorem fetch_of_decode {s : State} {r : Request} {rest : List Request} {i : Instr}
    (hin : s.inputs = r :: rest) (hdec : decode s.cfg r = .ok i) : fetch s = .request i rest := by
  simp only [fetch, hin, hdec]

theorem step_of_fetch_request {s : State} {i : Instr} {rest : List Request}
    (hf : fetch s = .request i rest) : step s = runStep i rest s := by
  simp only [step, hf]

/-- Settles O5: the fetch chooses the decoded operation, and `runStep` is `exec` between `begin` and
`retire`, whose field updates the statement writes out. -/
theorem stepRunsDecodedRequest : Obligations.StepRunsDecodedRequest := by
  intro s r rest i hin hdec
  have hf : fetch s = .request i rest := fetch_of_decode hin hdec
  calc step s = runStep i rest s := step_of_fetch_request hf
    _ = _ := by
      unfold runStep begin
      cases exec i { s with inputs := rest, result := .none } with
      | next t => rfl
      | fault f => rfl
      | refused e => rfl

end Sys2Proof.Machine
end

section
/-! PROOFS. The decoder yields well-formed operations: rows of the channel's generation, undefined rows
only for offsets that no row names, operands that fit (30_encoding.md R89, R91). -/

namespace Sys2Proof

open Sys2Proof.Machine

theorem v2Instr_wellFormed {c : Config} {w : Win} {dir : Dir} {r : Reg} {val : Word} {i : Instr}
    (hg : c.gen = .v2) (h : v2Instr w dir r val = some i) : wellFormed c i = true := by
  unfold v2Instr at h
  split at h <;> cases h <;> simp [wellFormed, hg]

theorem v4Instr_wellFormed {c : Config} {w : Win} {dir : Dir} {r : Reg} {val : Word} {i : Instr}
    (hg : c.gen = .v4) (h : v4Instr w dir r val = some i) : wellFormed c i = true := by
  unfold v4Instr at h
  split at h <;> cases h <;> simp [wellFormed, hg]

/-- Every register of the V2 map has a row for both directions (30_encoding.md R74). -/
theorem v2Instr_isSome (w : Win) (dir : Dir) (val : Word) :
    ∀ p ∈ v2Map, (v2Instr w dir p.2 val).isSome := by
  cases dir <;> simp [v2Map, v2Instr]

/-- Every register of the V4 map has a row for both directions (30_encoding.md R75). -/
theorem v4Instr_isSome (c : Config) (w : Win) (dir : Dir) (val : Word) :
    ∀ p ∈ v4Map c, (v4Instr w dir p.2 val).isSome := by
  cases dir <;> simp [v4Map, v4Instr]

theorem mem_of_lookup_eq_some {off : Nat} {r : Reg} {l : List (Nat × Reg)} (h : l.lookup off = some r) :
    (off, r) ∈ l := by
  obtain ⟨l₁, l₂, rfl, _⟩ := List.lookup_eq_some_iff.mp h
  simp

theorem decodeWindow_wellFormed {c : Config} {w : Win} {dir : Dir} {off : Nat} {val : Word}
    (ha : off % 4 = 0) (hm : off < c.mmioSize) (ho : off < 2 ^ 44) (hd : dir = .write ∨ val = 0) :
    wellFormed c (decodeWindow c w dir off val) = true := by
  cases hr : regAt c off with
  | none => cases hg : c.gen <;> simpa [decodeWindow, wellFormed, hg, hr, ha, hm] using ⟨ho, hd⟩
  | some r =>
    cases hg : c.gen with
    | v2 =>
      have hmem : (off, r) ∈ v2Map := mem_of_lookup_eq_some (by simpa [regAt, hg] using hr)
      obtain ⟨i, hi⟩ := Option.isSome_iff_exists.mp (v2Instr_isSome w dir val _ hmem)
      simpa [decodeWindow, hg, hr, hi] using v2Instr_wellFormed hg hi
    | v4 =>
      have hmem : (off, r) ∈ v4Map c := mem_of_lookup_eq_some (by simpa [regAt, hg] using hr)
      obtain ⟨i, hi⟩ := Option.isSome_iff_exists.mp (v4Instr_isSome c w dir val _ hmem)
      simpa [decodeWindow, hg, hr, hi] using v4Instr_wellFormed hg hi

theorem decodeControl_wellFormed {c : Config} {dir : Dir} {off : Nat} {val : Word}
    (ha : off % 4 = 0) (ho : off < 2 ^ 44) (hd : dir = .write ∨ val = 0) :
    wellFormed c (decodeControl c dir off val) = true := by
  unfold decodeControl
  split
  · cases dir <;> rfl
  · next hctrl =>
    split
    · cases dir <;> rfl
    · next hstatus => simpa [wellFormed, ha, hctrl, hstatus] using ⟨ho, hd⟩

theorem decodeParts_wellFormed {c : Config} {sp : Space} {dir : Dir} {size : Size} {off val : Nat}
    {i : Instr} (ho : off < 2 ^ 44) (h : decodeParts c sp dir size off val = .ok i) :
    wellFormed c i = true := by
  unfold decodeParts at h
  split at h
  · cases h
  next hread =>
  split at h
  · cases h
  next hwide =>
  split at h
  · cases h
  next hinside =>
  have hd : dir = .write ∨ val = 0 := by
    cases dir
    · exact .inr (by simpa using hread)
    · exact .inl rfl
  have hd' : dir = .write ∨ BitVec.ofNat 32 val = 0 := hd.imp_right (by rintro rfl; rfl)
  split at h
  · next hbad =>
    cases h
    simpa [wellFormed, hbad, hinside] using ⟨⟨ho, hd⟩, Nat.lt_of_not_le hwide⟩
  · next hal =>
    have ha : off % 4 = 0 := by
      have hal' : size = .b4 ∧ off % 4 = 0 := by simpa [aligned32] using hal
      exact hal'.2
    split at h <;> cases h
    · exact decodeWindow_wellFormed ha (by simpa [insideSpace] using hinside) ho hd'
    · exact decodeControl_wellFormed ha ho hd'

theorem decodeAccess_wellFormed {c : Config} {sp : Space} {v : Nat} {i : Instr}
    (h : decodeAccess c sp v = .ok i) : wellFormed c i = true := by
  unfold decodeAccess at h
  split at h
  · cases h
  · exact decodeParts_wellFormed (by omega) h

theorem decodeMgmtIn_wellFormed (c : Config) (p : Payload) : wellFormed c (decodeMgmtIn c p) = true := by
  have hlt := (mgmtType c p).isLt
  unfold decodeMgmtIn
  split <;> simp only [wellFormed, beq_iff_eq] <;> apply BitVec.eq_of_toNat_eq
  case h_16 =>
    simp only [imp_false] at *
    change (mgmtType c p).toNat = 15
    omega
  all_goals assumption

theorem decodeMgmtOut_wellFormed {c : Config} {p : Payload} {i : Instr}
    (h : decodeMgmtOut c p = .ok i) : wellFormed c i = true := by
  unfold decodeMgmtOut at h
  split at h
  · split at h <;> cases h; rfl
  · next ht => cases h; simpa [wellFormed] using BitVec.eq_of_toNat_eq ht
  · split at h <;> cases h; rfl
  · split at h
    · next hr => cases h; exact hr.2
    · cases h
  · cases h

theorem except_map_eq_ok {ε α β : Type} {x : Except ε α} {f : α → β} {b : β} (h : x.map f = .ok b) :
    ∃ a, b = f a := by
  cases x with
  | error e => cases h
  | ok a => cases h; exact ⟨a, rfl⟩

theorem decodeNamed_wellFormed {c : Config} {n : OpName} {v : Nat} {i : Instr}
    (hv : v < 256 ^ opBytes n) (h : decodeNamed c n v = .ok i) : wellFormed c i = true := by
  cases n with
  | mbSend | mbRecv | mbSetIntMask | mbClrIntMask | status =>
    obtain ⟨_, rfl⟩ := except_map_eq_ok h; rfl
  | mbSetDirEn =>
    cases hq : queueOfByte (v % 256) with
    | error e => simp [decodeNamed, hq, Except.bind] at h
    | ok q =>
      obtain ⟨_, rfl⟩ := except_map_eq_ok (by simpa [decodeNamed, hq, Except.bind] using h); rfl
  | registerControlEndpoint | registerUserEndpoint =>
    cases h
    simp only [opBytes] at hv
    simp only [wellFormed, decide_eq_true_eq]
    omega
  | routeRegistered | routeUnregistered =>
    simp only [decodeNamed] at h
    split at h <;> cases h
    simp_all [wellFormed]
  | sendToAp | receiveFromAp | sendToIop | receiveFromIop | sendControlMessage | sendUserMessage
  | startOrWakeup | buildRollcall | bhIop | bhAp | mgmtDispatch | reset => cases h; rfl

/-- The decoder yields well-formed operations only (30_encoding.md R89, R91). -/
theorem decode_wellFormed {c : Config} {r : Request} {i : Instr} (h : decode c r = .ok i) :
    wellFormed c i = true := by
  unfold decode at h
  split at h
  · cases h
  next hlen =>
  split at h
  · exact decodeAccess_wellFormed h
  · cases h; exact decodeMgmtIn_wellFormed _ _
  · exact decodeMgmtOut_wellFormed h
  · next n hp =>
    have hl : r.bytes.length = opBytes n := by simpa [hp, portBytes] using hlen
    exact decodeNamed_wellFormed (hl ▸ leNat_lt r.bytes) h

namespace Machine

/-- A request that is fetched is a well-formed operation. -/
theorem fetch_request_wellFormed {s : State} {i : Instr} {rest : List Request}
    (h : fetch s = .request i rest) : wellFormed s.cfg i = true := by
  unfold fetch at h
  split at h
  · split at h
    · next hd => cases h; exact decode_wellFormed hd
    · cases h
  · split at h
    · cases h
    · split at h <;> cases h

end Machine

end Sys2Proof
end

section
/-! PROOFS. The named operations over one window or one queue: what each leaves alone, so that the proofs
over `Effect` cite a frame and unfold nothing. -/

namespace Sys2Proof.Machine

/-- What an operation on window `w` leaves alone. -/
structure WindowFrame (w : Win) (s t : State) : Prop where
  cfg : t.cfg = s.cfg
  queue : ∀ q, t.queue q = s.queue q
  other : ∀ w', w' ≠ w → t.window w' = s.window w'
  runState : t.runState = s.runState
  ep0Status : t.ep0Status = s.ep0Status
  rollcallQ : t.rollcallQ = s.rollcallQ

theorem WindowFrame.of_setWindow (w : Win) (v : WindowState) (s : State) :
    WindowFrame w s (s.setWindow w v) where
  cfg := by simp
  queue := by simp
  other := fun _ hw => window_setWindow_ne s v hw
  runState := by simp
  ep0Status := by simp
  rollcallQ := by simp

theorem WindowFrame.give {w : Win} {s t : State} (h : WindowFrame w s t) (r : Result) :
    WindowFrame w s (give r t) where
  cfg := h.cfg
  queue := by simpa using h.queue
  other := by simpa using h.other
  runState := h.runState
  ep0Status := h.ep0Status
  rollcallQ := h.rollcallQ

theorem setIntMask_frame (w : Win) (bits : Word) (s : State) : WindowFrame w s (setIntMask w bits s) :=
  .of_setWindow w _ s

theorem clrIntMask_frame (w : Win) (bits : Word) (s : State) : WindowFrame w s (clrIntMask w bits s) :=
  .of_setWindow w _ s

theorem stageWord_frame (w : Win) (q : QId) (k : Nat) (val : Word) (s : State) :
    WindowFrame w s (stageWord w q k val s) := .of_setWindow w _ s

/-- A pop is a receive, and after it an operation on its window only (41_register_facade.md R146). -/
theorem popReceive_frame (g : Gen) (w : Win) (q : QId) (s : State) :
    WindowFrame w (mbRecv q s).2 (popReceive g w q s) := (WindowFrame.of_setWindow w _ _).give _

/-- A commit is a stage, and after it one send (41_register_facade.md R142). -/
theorem commitSend_eq_mbSend (g : Gen) (w : Win) (q : QId) (val : Word) (s : State) :
    ∃ m, commitSend g w q val s = mbSend q m (stageWord w q (lastWord g) val s) := ⟨_, rfl⟩

theorem window_congr {s t : State} (hiopw : t.iopw = s.iopw) (hapw : t.apw = s.apw) (w : Win) :
    t.window w = s.window w := by
  cases w
  · exact hiopw
  · exact hapw

theorem QueueFrame.window {q : QId} {s t : State} (h : QueueFrame q s t) (w : Win) :
    t.window w = s.window w := window_congr h.iopw h.apw w

theorem EngineFrame.window {s t : State} (h : EngineFrame s t) (w : Win) : t.window w = s.window w :=
  window_congr h.iopw h.apw w

@[simp] theorem setDirEn_window (q : QId) (b : Bool) (s : State) (w : Win) :
    (setDirEn q b s).window w = s.window w := setQueue_window ..

@[simp] theorem setDirEn_runState (q : QId) (b : Bool) (s : State) :
    (setDirEn q b s).runState = s.runState := setQueue_runState ..

@[simp] theorem setDirEn_cfg (q : QId) (b : Bool) (s : State) : (setDirEn q b s).cfg = s.cfg :=
  setQueue_cfg ..

@[simp] theorem readFree_window (s : State) (w : Win) : (readFree s).window w = s.window w := by
  cases w <;> rfl

@[simp] theorem readFree_queue (s : State) (q : QId) : (readFree s).queue q = s.queue q := by
  cases q <;> rfl

/-- A write of the control word stores it; with the run bit the core runs and the hook, which is the
engine's, may react (42_a7iop_core.md R176, R182). -/
theorem writeCpuCtrl_engine (val : Word) (s : State) :
    EngineFrame
      { s with
        cpuCtrl := val
        runState := if val.getLsbD s.cfg.cpuCtrlRunBit then .running else s.runState }
      (writeCpuCtrl val s) := by
  unfold writeCpuCtrl
  split
  · unfold invokeHook
    split
    · exact startOrWakeup_engine _
    · exact .refl _
  · exact .refl _

/-- Outside queue IOP the run of its callback does what the engine does (43_rtbuddy_engine.md R220). -/
theorem runCallback_engine {s t : State} (h : runCallback s = .ok t) :
    EngineFrame { s with iop := t.iop } t := (runCallback_ok h).rest

end Sys2Proof.Machine
end

section
/-! PROOFS. The invariant of the channel (10_state.md R15, R24, R27; 43_rtbuddy_engine.md R192). -/

namespace Sys2Proof.Machine

/-- The part of the invariant that speaks of one queue: its count is its length, and its callback is pending
only where one is registered. -/
def QueueInv (c : Config) (q : QId) (x : QueueState) : Prop :=
  QueueConsistent x ∧ (x.bhPending = true → bhRegistered c q = true)

theorem inv_iff (s : State) :
    Inv s ↔ (∀ q, QueueInv s.cfg q (s.queue q))
      ∧ (s.ep0Status ≠ .waitRollcall → s.rollcallQ = []) ∧ Config.RegistryWf s.cfg.registry := by
  constructor
  · rintro ⟨hiop, hap, hroll, hpiop, hpap, hreg⟩
    refine ⟨fun q => ?_, hroll, hreg⟩
    cases q
    · exact ⟨hiop, hpiop⟩
    · exact ⟨hap, hpap⟩
  · rintro ⟨hq, hroll, hreg⟩
    obtain ⟨hiop, hpiop⟩ := hq .iop
    obtain ⟨hap, hpap⟩ := hq .ap
    exact ⟨hiop, hap, hroll, hpiop, hpap, hreg⟩

theorem Inv.queue {s : State} (h : Inv s) (q : QId) : QueueInv s.cfg q (s.queue q) := ((inv_iff s).mp h).1 q

theorem setQueue_inv {q : QId} {v : QueueState} {s : State} (h : Inv s) (hv : QueueInv s.cfg q v) :
    Inv (s.setQueue q v) := by
  obtain ⟨hq, hroll, hreg⟩ := (inv_iff s).mp h
  refine (inv_iff _).mpr ⟨fun q' => ?_, by simpa using hroll, by simpa using hreg⟩
  by_cases hne : q' = q
  · subst hne; simpa using hv
  · simpa [queue_setQueue_ne s v hne] using hq q'

theorem WindowFrame.inv {w : Win} {s t : State} (hf : WindowFrame w s t) (h : Inv s) : Inv t := by
  rw [inv_iff] at h ⊢
  simpa [hf.cfg, hf.queue, hf.ep0Status, hf.rollcallQ] using h

theorem QueueFrame.inv {q : QId} {s t : State} (hf : QueueFrame q s t) (h : Inv s)
    (hq : QueueInv s.cfg q (t.queue q)) : Inv t := by
  obtain ⟨hall, hroll, hreg⟩ := (inv_iff s).mp h
  rw [inv_iff, hf.cfg, hf.ep0Status, hf.rollcallQ]
  refine ⟨fun q' => ?_, hroll, hreg⟩
  by_cases hne : q' = q
  · subst hne; exact hq
  · rw [hf.other q' hne]; exact hall q'

theorem EngineFrame.inv {s t : State} (hf : EngineFrame s t) (h : Inv s) : Inv t := by
  obtain ⟨hiop, hap, hroll, hpiop, hpap, hreg⟩ := h
  have hcount := hf.apCount
  have hpend : t.ap.bhPending = true → s.cfg.bhRegisteredAp = true := by
    rw [hf.apPending]
    cases hs : s.ap.bhPending
    · simp +contextual
    · simpa using hpap hs
  unfold Inv
  rw [hf.iop, hf.cfg]
  exact ⟨hiop, by omega, hf.rollcall hroll, hpiop, hpend, hreg⟩

theorem mbSend_inv (q : QId) (m : Message) {s : State} (h : Inv s) : Inv (mbSend q m s) := by
  obtain ⟨hcount, hpend⟩ := h.queue q
  obtain ⟨_, _, hlen⟩ := mbSend_queue q m s
  refine (mbSend_frame q m s).inv h ⟨by omega, ?_⟩
  rw [mbSend_bhPending]
  cases hs : (s.queue q).bhPending
  · simp +contextual
  · simpa using hpend hs

theorem mbRecv_inv (q : QId) {s : State} (h : Inv s) : Inv (mbRecv q s).2 := by
  obtain ⟨hcount, hpend⟩ := h.queue q
  obtain ⟨_, _, hkeeps⟩ := mbRecv_queue q s
  exact (mbRecv_frame q s).inv h ⟨hkeeps hcount, by rwa [mbRecv_bhPending]⟩

theorem runCallback_inv {s t : State} (hr : runCallback s = .ok t) (h : Inv s) : Inv t := by
  have hl := runCallback_ok hr
  obtain ⟨hcount, _⟩ := h.queue .iop
  have hiop : QueueInv s.cfg .iop t.iop := ⟨hl.count hcount, by simp [hl.bhPending]⟩
  exact (runCallback_engine hr).inv (setQueue_inv h hiop)

theorem register_inv {wire handler : Nat} {user : Bool} {s t : State}
    (hw : Config.EntryWf ⟨wire, handler, user⟩) (hr : register wire handler user s = .ok t) (h : Inv s) :
    Inv t := by
  obtain ⟨_, hnew, rfl⟩ := register_ok hr
  obtain ⟨hiop, hap, hroll, hpiop, hpap, hreg⟩ := h
  exact ⟨hiop, hap, hroll, hpiop, hpap, insertEndpoint_wf hnew hreg hw⟩

theorem resetAll_inv {s : State} (h : Inv s) : Inv (resetAll s) := by
  obtain ⟨_, _, _, _, _, hreg⟩ := h
  exact ⟨rfl, rfl, fun _ => rfl, nofun, nofun, hreg⟩

theorem Effect.inv {i : Instr} {s t : State} (he : Effect i s t) (h : Inv s) : Inv t := by
  cases he with
  | observe r => exact h
  | free => exact h
  | setMask bits hw => exact (setIntMask_frame _ bits s).inv h
  | clrMask bits hw => exact (clrIntMask_frame _ bits s).inv h
  | enable q b => exact setQueue_inv h (h.queue q)
  | stage q k val hw hk => exact (stageWord_frame _ q k val s).inv h
  | commit q val hw hg =>
    obtain ⟨m, hm⟩ := commitSend_eq_mbSend _ _ q val s
    rw [hm]
    exact mbSend_inv q m ((stageWord_frame _ q _ val s).inv h)
  | pop q hw hq hg => exact (popReceive_frame _ _ q s).inv (mbRecv_inv q h)
  | send q m => exact mbSend_inv q m h
  | receive q hq => exact mbRecv_inv q h
  | control val hi => exact (writeCpuCtrl_engine val s).inv h
  | engine hf he => exact hf.inv h
  | callback hb hr hi => exact runCallback_inv hr h
  | apCallback hb hi => exact setQueue_inv (q := .ap) h ⟨(h.queue .ap).1, nofun⟩
  | registration hi hw hr => exact register_inv hw hr h
  | reset hi => exact resetAll_inv h

theorem runStep_next {i : Instr} {rest : List Request} {s t : State} (h : runStep i rest s = .next t) :
    ∃ u, exec i (begin rest s) = .next u ∧ t = retire i u := by
  unfold runStep at h
  split at h <;> cases h
  next u hu => exact ⟨u, hu, rfl⟩

/-- What a step that has a successor state has done: nothing, or one well-formed operation between `begin`
and `retire` (00_scope.md R8). -/
theorem step_next {s t : State} (h : step s = .next t) :
    t = s ∨ ∃ i rest u, wellFormed s.cfg i = true ∧ exec i (begin rest s) = .next u ∧ t = retire i u := by
  unfold step at h
  split at h
  · next i rest hf => exact .inr ⟨i, rest, _, fetch_request_wellFormed hf, (runStep_next h).choose_spec⟩
  · cases h
  · next q hf =>
    have hwf : wellFormed s.cfg (callbackRun q) = true := by cases q <;> rfl
    exact .inr ⟨_, [], _, hwf, (runStep_next h).choose_spec⟩
  · cases h; exact .inl rfl

/-- Settles O9: every effect keeps the invariant, and neither `begin` nor `retire` touches a field that it
speaks of. -/
theorem stepKeepsChannelInvariant : Obligations.StepKeepsChannelInvariant := by
  intro s t hinv hstep
  rcases step_next hstep with rfl | ⟨i, rest, u, _, hexec, rfl⟩
  · exact hinv
  · have hbegin : Inv (begin rest s) := hinv
    exact (exec_effect hexec).inv hbegin

end Sys2Proof.Machine
end

section
/-! PROOFS. The words of a slot in a V2 channel (10_state.md R11, R12 with `NWORDS = 2`). -/

namespace Sys2Proof.Machine

theorem WindowState.TwoWords.stage {x : WindowState} (h : x.TwoWords) (q : QId) : (x.stage q).TwoWords := by
  obtain ⟨hiop, hap, _, _⟩ := h
  cases q
  · exact hiop
  · exact hap

theorem WindowState.TwoWords.setStage {x : WindowState} (h : x.TwoWords) (q : QId) {v : Slot}
    (hv : v.TwoWords) : (x.setStage q v).TwoWords := by
  obtain ⟨hiop, hap, hciop, hcap⟩ := h
  cases q
  · exact ⟨hv, hap, hciop, hcap⟩
  · exact ⟨hiop, hv, hciop, hcap⟩

theorem WindowState.TwoWords.setCache {x : WindowState} (h : x.TwoWords) (q : QId) {v : Slot}
    (hv : v.TwoWords) : (x.setCache q v).TwoWords := by
  obtain ⟨hiop, hap, hciop, hcap⟩ := h
  cases q
  · exact ⟨hiop, hap, hv, hcap⟩
  · exact ⟨hiop, hap, hciop, hv⟩

theorem setSlotWord_twoWords {x : Slot} (h : x.TwoWords) {k : Nat} (hk : k < 2) (val : Word) :
    (setSlotWord x k val).TwoWords := by
  match k, hk with
  | 0, _ => exact h
  | 1, _ => exact h

theorem cacheOf_v2_twoWords (r : Option Message) : (cacheOf .v2 r).TwoWords := by
  cases r <;> exact ⟨rfl, rfl⟩

/-- Both windows of the channel use two words of each slot. -/
def Narrow (s : State) : Prop := ∀ w, (s.window w).TwoWords

theorem v2Narrow_iff (s : State) : V2Narrow s ↔ (s.cfg.gen = .v2 → Narrow s) := by
  refine imp_congr_right fun _ => ⟨fun h w => ?_, fun h => ⟨h .iopw, h .apw⟩⟩
  cases w
  · exact h.1
  · exact h.2

theorem Narrow.congr {s t : State} (h : Narrow s) (hw : ∀ w, t.window w = s.window w) : Narrow t :=
  fun w => hw w ▸ h w

theorem Narrow.setWindow {s : State} (h : Narrow s) (w : Win) {v : WindowState} (hv : v.TwoWords) :
    Narrow (s.setWindow w v) := by
  intro w'
  by_cases hne : w' = w
  · subst hne; simpa using hv
  · rw [window_setWindow_ne s v hne]; exact h w'

theorem Narrow.stageWord {s : State} (h : Narrow s) (w : Win) (q : QId) {k : Nat} (hk : k < 2) (val : Word) :
    Narrow (stageWord w q k val s) :=
  h.setWindow w ((h w).setStage q (setSlotWord_twoWords ((h w).stage q) hk val))

theorem Narrow.commitSend {s : State} (h : Narrow s) (w : Win) (q : QId) (val : Word) :
    Narrow (commitSend .v2 w q val s) := by
  obtain ⟨m, hm⟩ := commitSend_eq_mbSend .v2 w q val s
  rw [hm]
  exact (h.stageWord w q (by decide) val).congr (mbSend_frame q m _).window

theorem Narrow.popReceive {s : State} (h : Narrow s) (w : Win) (q : QId) : Narrow (popReceive .v2 w q s) := by
  have hrecv : Narrow (mbRecv q s).2 := h.congr (mbRecv_frame q s).window
  have hfill := hrecv.setWindow w ((hrecv w).setCache q (cacheOf_v2_twoWords (mbRecv q s).1))
  exact hfill.congr (give_window _ _)

theorem resetAll_narrow (s : State) : Narrow (resetAll s) := by
  intro w
  cases w <;> exact ⟨⟨rfl, rfl⟩, ⟨rfl, rfl⟩, ⟨rfl, rfl⟩, ⟨rfl, rfl⟩⟩

/-- In a V2 channel a well-formed operation stages no word beyond the second, and commits and pops in the
V2 layout. -/
theorem Effect.narrow {i : Instr} {s t : State} (he : Effect i s t) (hwf : wellFormed s.cfg i = true)
    (hgen : s.cfg.gen = .v2) (h : Narrow s) : Narrow t := by
  cases he with
  | observe r => exact h.congr (give_window r s)
  | free => exact h.congr (readFree_window s)
  | setMask bits hw => exact h.setWindow _ (h _)
  | clrMask bits hw => exact h.setWindow _ (h _)
  | enable q b => exact h.congr (setDirEn_window q b s)
  | stage q k val hw hk => exact h.stageWord _ q (nwords_v2 hgen ▸ hk s.cfg hwf) val
  | commit q val hw hg =>
    obtain rfl := (hg s.cfg hwf).symm.trans hgen
    exact h.commitSend _ q val
  | pop q hw hq hg =>
    obtain rfl := (hg s.cfg hwf).symm.trans hgen
    exact h.popReceive _ q
  | send q m => exact h.congr (mbSend_frame q m s).window
  | receive q hq => exact h.congr fun w => (give_window _ _ w).trans ((mbRecv_frame q s).window w)
  | control val hi => exact h.congr (writeCpuCtrl_engine val s).window
  | engine hf he => exact h.congr hf.window
  | callback hb hr hi => exact h.congr (runCallback_engine hr).window
  | apCallback hb hi => exact h.congr (runApCallback_window s)
  | registration hi hw hr => obtain ⟨_, _, rfl⟩ := register_ok hr; exact h
  | reset hi => exact resetAll_narrow s

end Sys2Proof.Machine
end

section
/-! PROOFS. What no operation changes (10_state.md R10, R11, R12, R18, R20, R27). -/

namespace Sys2Proof.Machine

/-- What nearly every operation leaves alone: the configuration, the run state, and every window but the one
through which it acts. -/
structure Untouched (i : Instr) (s t : State) : Prop where
  cfg : t.cfg = s.cfg
  runState : t.runState = s.runState
  window : ∀ w, actsThrough i ≠ some w → t.window w = s.window w

theorem Untouched.of_fields {i : Instr} {s t : State} (hcfg : t.cfg = s.cfg) (hrun : t.runState = s.runState)
    (hiopw : t.iopw = s.iopw) (hapw : t.apw = s.apw) : Untouched i s t :=
  ⟨hcfg, hrun, fun w _ => window_congr hiopw hapw w⟩

theorem Untouched.trans {i : Instr} {s t u : State} (h : Untouched i s t) (k : Untouched i t u) :
    Untouched i s u where
  cfg := k.cfg.trans h.cfg
  runState := k.runState.trans h.runState
  window := fun w hw => (k.window w hw).trans (h.window w hw)

theorem WindowFrame.untouched {i : Instr} {w : Win} {s t : State} (h : WindowFrame w s t)
    (hw : actsThrough i = some w) : Untouched i s t where
  cfg := h.cfg
  runState := h.runState
  window := fun w' hw' => h.other w' fun e => hw' (e ▸ hw)

theorem QueueFrame.untouched {q : QId} {s t : State} (h : QueueFrame q s t) (i : Instr) : Untouched i s t :=
  .of_fields h.cfg h.runState h.iopw h.apw

theorem EngineFrame.untouched {s t : State} (h : EngineFrame s t) (i : Instr) : Untouched i s t :=
  .of_fields h.cfg h.runState h.iopw h.apw

/-- There are three exceptions: a write of the control word, which can run the core, a registration, and
RESET. -/
theorem Effect.untouched {i : Instr} {s t : State} (he : Effect i s t) :
    Untouched i s t
    ∨ (∃ val, t = writeCpuCtrl val s)
    ∨ (isRegistration i = true ∧ ∃ reg, t = { s with cfg := { s.cfg with registry := reg } })
    ∨ (i = .reset ∧ t = resetAll s) := by
  cases he with
  | observe r => exact .inl (.of_fields rfl rfl rfl rfl)
  | free => exact .inl (.of_fields rfl rfl rfl rfl)
  | setMask bits hw => exact .inl ((setIntMask_frame _ bits s).untouched hw)
  | clrMask bits hw => exact .inl ((clrIntMask_frame _ bits s).untouched hw)
  | enable q b =>
    exact .inl ⟨setDirEn_cfg q b s, setDirEn_runState q b s, fun w _ => setDirEn_window q b s w⟩
  | stage q k val hw hk => exact .inl ((stageWord_frame _ q k val s).untouched hw)
  | commit q val hw hg =>
    obtain ⟨m, hm⟩ := commitSend_eq_mbSend _ _ q val s
    rw [hm]
    exact .inl (((stageWord_frame _ q _ val s).untouched hw).trans ((mbSend_frame q m _).untouched i))
  | pop q hw hq hg =>
    exact .inl (((mbRecv_frame q s).untouched i).trans ((popReceive_frame _ _ q s).untouched hw))
  | send q m => exact .inl ((mbSend_frame q m s).untouched i)
  | receive q hq => exact .inl (((mbRecv_frame q s).untouched i).trans (.of_fields rfl rfl rfl rfl))
  | control val hi => exact .inr (.inl ⟨val, rfl⟩)
  | engine hf he => exact .inl (hf.untouched i)
  | callback hb hr hi =>
    have hf := runCallback_engine hr
    exact .inl (.of_fields hf.cfg hf.runState hf.iopw hf.apw)
  | apCallback hb hi => exact .inl (.of_fields rfl rfl rfl rfl)
  | registration hi hw hr =>
    obtain ⟨_, _, rfl⟩ := register_ok hr
    exact .inr (.inr (.inl ⟨hi, _, rfl⟩))
  | reset hi => exact .inr (.inr (.inr ⟨hi, rfl⟩))

/-- Only a registration changes the configuration, and of it only the registry (10_state.md R10). -/
theorem Effect.cfg {i : Instr} {s t : State} (he : Effect i s t) :
    t.cfg = s.cfg ∨ (isRegistration i = true ∧ ∃ reg, t.cfg = { s.cfg with registry := reg }) := by
  rcases he.untouched with h | ⟨val, rfl⟩ | ⟨hi, reg, rfl⟩ | ⟨_, rfl⟩
  · exact .inl h.cfg
  · exact .inl (writeCpuCtrl_engine val s).cfg
  · exact .inr ⟨hi, reg, rfl⟩
  · exact .inl rfl

theorem Effect.gen {i : Instr} {s t : State} (he : Effect i s t) : t.cfg.gen = s.cfg.gen := by
  rcases he.cfg with h | ⟨_, reg, h⟩ <;> rw [h]

/-- Settles O11: the decoder yields only rows of the channel's generation, and those of V2 use two words. -/
theorem stepKeepsV2SlotsNarrow : Obligations.StepKeepsV2SlotsNarrow := by
  intro s t hnarrow hstep
  rcases step_next hstep with rfl | ⟨i, rest, u, hwf, hexec, rfl⟩
  · exact hnarrow
  · have he : Effect i (begin rest s) u := exec_effect hexec
    have hbegin : V2Narrow (begin rest s) := hnarrow
    have hu : V2Narrow u := by
      rw [v2Narrow_iff] at hbegin ⊢
      intro hgen
      have hgen' : (begin rest s).cfg.gen = .v2 := he.gen ▸ hgen
      exact he.narrow hwf hgen' (hbegin hgen')
    exact hu

/-- Settles O16: every effect but a registration keeps the configuration, RESET among them. -/
theorem configurationIsFixed : Obligations.ConfigurationIsFixed := by
  intro i s t hi hexec
  rcases (exec_effect hexec).cfg with h | ⟨hreg, _⟩
  · exact h
  · rw [hi] at hreg; cases hreg

/-- An operation other than RESET leaves every window alone but the one through which it acts. -/
theorem Effect.window {i : Instr} {s t : State} {w : Win} (he : Effect i s t) (hi : i ≠ .reset)
    (hw : actsThrough i ≠ some w) : t.window w = s.window w := by
  rcases he.untouched with h | ⟨val, rfl⟩ | ⟨_, reg, rfl⟩ | ⟨hreset, _⟩
  · exact h.window w hw
  · exact (writeCpuCtrl_engine val s).window w
  · rfl
  · exact absurd hreset hi

/-- Settles O17: an effect on a window is an effect of an access through it. -/
theorem windowsDoNotInterfere : Obligations.WindowsDoNotInterfere :=
  fun _ _ _ _ hi hw hexec => (exec_effect hexec).window hi hw

/-- Only the control word moves the run state, and only to running; RESET alone takes it back. -/
theorem Effect.runState {i : Instr} {s t : State} (he : Effect i s t) (hi : i ≠ .reset) :
    t.runState = s.runState ∨ t.runState = .running := by
  rcases he.untouched with h | ⟨val, rfl⟩ | ⟨_, reg, rfl⟩ | ⟨hreset, _⟩
  · exact .inl h.runState
  · rw [(writeCpuCtrl_engine val s).runState]
    dsimp only
    split
    · exact .inr rfl
    · exact .inl rfl
  · exact .inl rfl
  · exact absurd hreset hi

/-- Settles O15: an effect other than a reset leaves the run state or makes it running. -/
theorem runStateIsSticky : Obligations.RunStateIsSticky := by
  intro i s t hi hexec hrun
  rcases (exec_effect hexec).runState hi with h | h
  · exact h.trans hrun
  · exact h

end Sys2Proof.Machine
end

section
/-! PROOFS. What an operation can do to a queue (10_state.md R14, R16, R27 (b); 40_mailbox_ops.md R102). -/

namespace Sys2Proof.Machine

/-- The messages of a queue stay in place, others may be appended behind them, and its latch is unchanged. -/
structure QueueGrows (x y : QueueState) : Prop where
  inbox : x.inbox <+: y.inbox
  underflow : y.underflow = x.underflow

theorem QueueGrows.refl (x : QueueState) : QueueGrows x x := ⟨List.prefix_refl _, rfl⟩

theorem QueueGrows.of_eq {x y : QueueState} (h : y = x) : QueueGrows x y := h ▸ .refl x

theorem setDirEn_grows (p : QId) (b : Bool) (s : State) (q : QId) :
    QueueGrows (s.queue q) ((setDirEn p b s).queue q) := by
  by_cases hne : q = p
  · subst hne
    rw [setDirEn, queue_setQueue_self]
    exact ⟨List.prefix_refl _, rfl⟩
  · exact .of_eq (queue_setQueue_ne s _ hne)

theorem mbSend_grows (p : QId) (m : Message) (s : State) (q : QId) :
    QueueGrows (s.queue q) ((mbSend p m s).queue q) := by
  by_cases hne : q = p
  · subst hne
    obtain ⟨hlatch, hinbox, _⟩ := mbSend_queue q m s
    exact ⟨hinbox, hlatch⟩
  · exact .of_eq ((mbSend_frame p m s).other q hne)

/-- A receive from another queue takes nothing from queue `q`, nor does one from `q` while it is latched
(40_mailbox_ops.md R102). -/
theorem mbRecv_grows {p q : QId} {s : State} (h : q ≠ p ∨ (s.queue q).underflow = true) :
    QueueGrows (s.queue q) ((mbRecv p s).2.queue q) := by
  by_cases hne : q = p
  · subst hne
    have hu : (s.queue q).underflow = true := h.resolve_left (fun hqq => hqq rfl)
    obtain ⟨hlatch, hinbox, _⟩ := mbRecv_queue q s
    exact ⟨by rw [hinbox hu], (hlatch hu).trans hu.symm⟩
  · exact .of_eq ((mbRecv_frame p s).other q hne)

theorem EngineFrame.grows {s t : State} (h : EngineFrame s t) (q : QId) :
    QueueGrows (s.queue q) (t.queue q) := by
  cases q
  · exact .of_eq h.iop
  · exact ⟨h.apInbox, h.apUnderflow⟩

/-- Over a latched queue IOP the loop's guard fails at once (43_rtbuddy_engine.md R220). -/
theorem dispatchLoop_of_latched {s : State} (hu : s.iop.underflow = true) (n : Nat) :
    dispatchLoop n s = .ok s := by
  cases n with
  | zero => rfl
  | succ n => simp [dispatchLoop, loopGuard, hu]

theorem runCallback_of_latched {s : State} (hu : s.iop.underflow = true) :
    runCallback s = .ok { s with iop := { s.iop with bhPending := false } } :=
  dispatchLoop_of_latched (s := { s with iop := { s.iop with bhPending := false } }) hu s.iop.count

theorem runCallback_grows {s t : State} {q : QId} (h : runCallback s = .ok t)
    (hq : q ≠ .iop ∨ (s.queue q).underflow = true) : QueueGrows (s.queue q) (t.queue q) := by
  cases q with
  | iop =>
    have hu : s.iop.underflow = true := hq.resolve_left (fun hne => hne rfl)
    rw [runCallback_of_latched hu] at h
    cases h
    exact ⟨List.prefix_refl _, rfl⟩
  | ap => exact (runCallback_engine h).grows .ap

theorem runApCallback_grows (s : State) (q : QId) : QueueGrows (s.queue q) ((runApCallback s).queue q) := by
  cases q <;> exact ⟨List.prefix_refl _, rfl⟩

/-- An operation other than RESET that does not receive from a queue, or finds its latch set, only appends to
it and keeps the latch. -/
theorem Effect.grows {i : Instr} {s t : State} {q : QId} (he : Effect i s t) (hi : i ≠ .reset)
    (hq : receivesFrom i q = false ∨ (s.queue q).underflow = true) : QueueGrows (s.queue q) (t.queue q) := by
  have other : ∀ {p}, receivesFrom i p = true → q ≠ p ∨ (s.queue q).underflow = true := fun hp =>
    hq.imp_left fun h e => by rw [e, hp] at h; cases h
  cases he with
  | observe r => exact .of_eq (give_queue r s q)
  | free => exact .of_eq (readFree_queue s q)
  | setMask bits hw => exact .of_eq ((setIntMask_frame _ bits s).queue q)
  | clrMask bits hw => exact .of_eq ((clrIntMask_frame _ bits s).queue q)
  | enable p b => exact setDirEn_grows p b s q
  | stage p k val hw hk => exact .of_eq ((stageWord_frame _ p k val s).queue q)
  | commit p val hw hg =>
    obtain ⟨m, hm⟩ := commitSend_eq_mbSend _ _ p val s
    rw [hm, ← (stageWord_frame _ p _ val s).queue q]
    exact mbSend_grows p m _ q
  | pop p hw hp hg => rw [(popReceive_frame _ _ p s).queue q]; exact mbRecv_grows (other hp)
  | send p m => exact mbSend_grows p m s q
  | receive p hp => rw [giveMessage, give_queue]; exact mbRecv_grows (other hp)
  | control val hi => exact (writeCpuCtrl_engine val s).grows q
  | engine hf he => exact hf.grows q
  | callback hb hr hi' => exact runCallback_grows hr (other (by rw [hi']; rfl))
  | apCallback hb hi => exact runApCallback_grows s q
  | registration hi hw hr => obtain ⟨_, _, rfl⟩ := register_ok hr; exact .refl _
  | reset hi' => exact absurd hi' hi

/-- Settles O12: with the latch set, every effect but a reset keeps it. -/
theorem underflowIsSticky : Obligations.UnderflowIsSticky :=
  fun _ _ _ _ hi hexec hu => ((exec_effect hexec).grows hi (.inr hu)).underflow.trans hu

/-- Settles O13: with the latch set, a receive takes nothing, and no other effect but a reset does. -/
theorem latchedQueueLosesNothing : Obligations.LatchedQueueLosesNothing :=
  fun _ _ _ _ hi hexec hu => ((exec_effect hexec).grows hi (.inr hu)).inbox

/-- Settles O14: only receives and RESET take messages away or set the latch. -/
theorem queueOnlyGrowsUnlessReceived : Obligations.QueueOnlyGrowsUnlessReceived := by
  intro i s t q hi hrecv hexec
  have hgrows : QueueGrows (s.queue q) (t.queue q) := (exec_effect hexec).grows hi (.inl hrecv)
  exact ⟨hgrows.inbox, hgrows.underflow⟩

end Sys2Proof.Machine
end

section
/-! PROOFS. When the run of a callback is enabled (10_state.md R24, 20_memory.md R58). -/

namespace Sys2Proof.Machine

theorem exec_bhIop_of_not_pending {s : State} (h : s.iop.bhPending = false) :
    exec .bhIop s = .refused .callbackNotPending := by
  simp [exec, execBhIop, h]

theorem exec_bhAp_of_not_pending {s : State} (h : s.ap.bhPending = false) :
    exec .bhAp s = .refused .callbackNotPending := by
  simp [exec, execBhAp, h]

theorem exec_bhAp_of_pending {s : State} (h : s.ap.bhPending = true) :
    exec .bhAp s = .next (runApCallback s) := by
  simp [exec, execBhAp, h]

/-- Settles O57: both runs test their pending flag first, and that of queue AP then only clears it. -/
theorem callbackNeedsToBePending : Obligations.CallbackNeedsToBePending :=
  fun _ => ⟨exec_bhIop_of_not_pending, exec_bhAp_of_not_pending, exec_bhAp_of_pending⟩

end Sys2Proof.Machine
end

section
/-! PROOFS. With admitted handler replies nothing that the engine does is refused: a reply, a delivery, routing,
the dispatch loop and the run of the callback (43_rtbuddy_engine.md R194, R195, R220, R222, R226). -/

namespace Sys2Proof.Machine

theorem performReply_of_admitted {r : Reply} (hr : ReplyAdmitted r) (s : State) :
    ∃ m, performReply r s = .ok (sendToAp m s) := by
  cases r with
  | control id payload => exact ⟨⟨payload, id, 0⟩, if_pos hr⟩
  | user id payload =>
    have hid : id.toNat + userEpBase ≤ maxWire := Nat.add_le_add_right hr userEpBase
    exact ⟨⟨payload, id + BitVec.ofNat 32 userEpBase, 0⟩, if_pos hid⟩

theorem performReplies_completes {rs : List Reply} (hrs : ∀ r ∈ rs, ReplyAdmitted r) (s : State) :
    ∃ t, performReplies rs s = .ok t := by
  induction rs generalizing s with
  | nil => exact ⟨s, rfl⟩
  | cons r rs ih =>
    obtain ⟨hr, hrs⟩ := List.forall_mem_cons.mp hrs
    obtain ⟨m, hm⟩ := performReply_of_admitted hr s
    rw [performReplies_cons, hm]
    exact ih hrs (sendToAp m s)

/-- Replies that are still to come were admitted before: an operation of the engine only uses some up. -/
theorem EngineFrame.repliesAdmitted {s t : State} (hf : EngineFrame s t) (h : RepliesAdmitted s) :
    RepliesAdmitted t :=
  fun rs hrs => h rs (hf.replies.subset hrs)

/-- The replies of the next delivery are admitted, those of a handler that replies nothing included. -/
theorem RepliesAdmitted.head {s : State} (h : RepliesAdmitted s) :
    ∀ r ∈ s.replies.headD [], ReplyAdmitted r := by
  cases hrs : s.replies with
  | nil => nofun
  | cons rs rest => exact h rs (hrs ▸ List.mem_cons_self)

theorem deliverTo_completes {s : State} (h : RepliesAdmitted s) (e : Endpoint) (m : Message) :
    ∃ t, deliverTo e m s = .ok t :=
  performReplies_completes h.head _

theorem route_completes {s : State} (h : RepliesAdmitted s) (m : Message) : ∃ t, route m s = .ok t := by
  unfold route
  split
  · exact ⟨_, rfl⟩
  · split
    · exact deliverTo_completes h _ m
    · exact ⟨_, rfl⟩

/-- One iteration pops nothing, or a message whose routing completes and leaves admitted replies for the
remaining ones. -/
theorem dispatchLoop_completes {s : State} (h : RepliesAdmitted s) (n : Nat) :
    ∃ t, dispatchLoop n s = .ok t := by
  induction n generalizing s with
  | zero => exact ⟨s, rfl⟩
  | succ n ih =>
    unfold dispatchLoop
    split
    · next hguard =>
      rcases receiveFromAp_of_guard hguard with ⟨_, hrecv⟩ | ⟨m, rest, _, hrecv⟩
      · exact ⟨s, by rw [hrecv]⟩
      · obtain ⟨u, hu⟩ := route_completes (s := (receiveFromAp s).2) (by rw [hrecv]; exact h)
          (stampDepth s.cfg s.iop.count m)
        rw [hrecv] at hu ⊢
        simp only [hu]
        exact ih ((route_ok hu).repliesAdmitted h)
    · exact ⟨s, rfl⟩

theorem runCallback_completes {s : State} (h : RepliesAdmitted s) : ∃ t, runCallback s = .ok t :=
  dispatchLoop_completes (s := { s with iop := { s.iop with bhPending := false } }) h s.iop.count

theorem runCallback_iop_bhPending {s t : State} (h : runCallback s = .ok t) : t.iop.bhPending = false :=
  (runCallback_ok h).bhPending

theorem exec_bhIop_of_pending {s : State} (h : s.iop.bhPending = true) :
    exec .bhIop s = toOutcome (runCallback s) := by
  simp [exec, execBhIop, h]

end Sys2Proof.Machine
end

section
/-! PROOFS. What a step is when no request decodes: a refusal, the run of a pending callback, or nothing
(20_memory.md R41, R55, R58; log entries 2, 3). -/

namespace Sys2Proof.Machine

theorem fetch_of_undecodable {s : State} {r : Request} {rest : List Request} {e : DecodeError}
    (hin : s.inputs = r :: rest) (hdec : decode s.cfg r = .error e) : fetch s = .bad e := by
  simp only [fetch, hin, hdec]

theorem fetch_of_iop_pending {s : State} (hin : s.inputs = []) (hiop : s.iop.bhPending = true) :
    fetch s = .callback .iop := by
  simp only [fetch, hin, hiop, if_true]

theorem fetch_of_ap_pending {s : State} (hin : s.inputs = []) (hiop : s.iop.bhPending = false)
    (hap : s.ap.bhPending = true) : fetch s = .callback .ap := by
  simp [fetch, hin, hiop, hap]

theorem fetch_of_idle {s : State} (hin : s.inputs = []) (hiop : s.iop.bhPending = false)
    (hap : s.ap.bhPending = false) : fetch s = .idle := by
  simp [fetch, hin, hiop, hap]

theorem retire_callbackRun (q : QId) (s : State) : retire (callbackRun q) s = { s with live := true } := by
  cases q <;> simp [retire, callbackRun, isRegistration]

/-- The step of a callback agent is the run of its callback, marked as a step of the channel. -/
theorem step_of_fetch_callback {s u : State} {q : QId} (hf : fetch s = .callback q)
    (hexec : exec (callbackRun q) (begin [] s) = .next u) : step s = .next { u with live := true } := by
  simp only [step, hf, runStep, hexec, retire_callbackRun]

/-- Settles O6: the fetch answers the decoder's reason, and the step refuses with it. -/
theorem undecodableRequestIsRefused : Obligations.UndecodableRequestIsRefused := by
  intro s r rest e hin hdec
  simp only [step, fetch_of_undecodable hin hdec]

/-- Settles O7: the fetch finds no agent with a step, and such a step answers its own state. -/
theorem idleChannelDoesNotChange : Obligations.IdleChannelDoesNotChange := by
  intro s hin hiop hap
  simp only [step, fetch_of_idle hin hiop hap]

/-- Settles O8: the fetch chooses the callback of queue IOP first. Its run completes because the replies are
admitted, that of queue AP because it only clears its flag; neither places a request. -/
theorem pendingCallbackRuns : Obligations.PendingCallbackRuns := by
  intro s hin
  constructor
  · intro hiop hreplies
    obtain ⟨u, hrun⟩ := runCallback_completes (s := begin [] s) hreplies
    have hexec : exec .bhIop (begin [] s) = .next u := by
      rw [exec_bhIop_of_pending (s := begin [] s) hiop, hrun]; rfl
    exact ⟨u, hexec, step_of_fetch_callback (fetch_of_iop_pending hin hiop) hexec,
      runCallback_iop_bhPending hrun, (runCallback_engine hrun).inputs⟩
  · intro hiop hap
    have hexec : exec .bhAp (begin [] s) = .next (runApCallback (begin [] s)) :=
      exec_bhAp_of_pending (s := begin [] s) hap
    exact ⟨_, hexec, step_of_fetch_callback (fetch_of_ap_pending hin hiop hap) hexec, rfl, rfl⟩

end Sys2Proof.Machine
end

section
/-! PROOFS. Fields of a word (30_encoding.md R72, R76, R80 to R85): a value placed at bit `l` is read back
from there, and is zero everywhere else. -/

namespace Sys2Proof.Machine

theorem getLsbD_placed_outside {n w l b : Nat} (x : BitVec w) (h : ¬(l ≤ b ∧ b < l + w)) :
    (x.setWidth n <<< l).getLsbD b = false := by
  by_cases hl : l ≤ b
  · simp [BitVec.getLsbD_of_ge x (b - l) (by omega)]
  · simp [show b < l by omega]

theorem getLsbD_placed_inside {n w l i : Nat} (x : BitVec w) (h : l + w ≤ n) (hi : i < w) :
    (x.setWidth n <<< l).getLsbD (l + i) = x.getLsbD i := by
  simp [show l + i < n by omega]

/-- A field read where it was placed. -/
theorem extractLsb'_placed_self {n w l : Nat} (x : BitVec w) (h : l + w ≤ n) :
    (x.setWidth n <<< l).extractLsb' l w = x := by
  apply BitVec.eq_of_getLsbD_eq
  intro i hi
  simp only [BitVec.getLsbD_extractLsb', getLsbD_placed_inside x h hi, hi, decide_true, Bool.true_and]

/-- A field read at a place that the placed one does not reach. -/
theorem extractLsb'_placed_disjoint {n w l w' l' : Nat} (x : BitVec w) (h : Config.Disjoint l w l' w') :
    (x.setWidth n <<< l).extractLsb' l' w' = 0#w' := by
  apply BitVec.eq_of_getLsbD_eq
  intro i hi
  have hout : ¬(l ≤ l' + i ∧ l' + i < l + w) := by
    rcases h with h | h <;> omega
  simp only [BitVec.getLsbD_extractLsb', getLsbD_placed_outside x hout, Bool.and_false, BitVec.getLsbD_zero]

end Sys2Proof.Machine
end

section
/-! PROOFS. The outbound payloads (30_encoding.md R82 to R85): each field as it is read back, and zero
outside the fields. -/

namespace Sys2Proof.Machine

theorem mgmtType_mgmtOf {c : Config} (t : BitVec 4) (h : c.mgmtTypeLsb + 4 ≤ 64) :
    mgmtType c (mgmtOf c t) = t :=
  extractLsb'_placed_self t h

theorem mgmtOf_getLsbD_outside {c : Config} {b : Nat} (t : BitVec 4)
    (h : ¬(c.mgmtTypeLsb ≤ b ∧ b < c.mgmtTypeLsb + 4)) : (mgmtOf c t).getLsbD b = false :=
  getLsbD_placed_outside t h

theorem mgmtOf_extractLsb'_disjoint {c : Config} {l w : Nat} (t : BitVec 4)
    (h : Config.Disjoint l w c.mgmtTypeLsb 4) : (mgmtOf c t).extractLsb' l w = 0#w :=
  extractLsb'_placed_disjoint t h.symm

theorem mgmtType_or {c : Config} (p x : Payload) : mgmtType c (p ||| x) = mgmtType c p ||| mgmtType c x :=
  BitVec.extractLsb'_or

/-- A field that does not reach the type field adds nothing to the type. -/
theorem mgmtType_placed {c : Config} {w l : Nat} (x : BitVec w) (h : Config.Disjoint l w c.mgmtTypeLsb 4) :
    mgmtType c (x.setWidth 64 <<< l) = 0 :=
  extractLsb'_placed_disjoint x h

/-! Hello (R82). -/

theorem mgmtType_helloPayload {c : Config} (h : c.PayloadWf) : mgmtType c (helloPayload c) = 1 := by
  obtain ⟨htype, -, -, -, hmajorType, hminorType, -⟩ := h
  simp [helloPayload, mgmtType_or, mgmtType_mgmtOf _ htype, mgmtType_placed _ hmajorType,
    mgmtType_placed _ hminorType]

theorem helloPayload_major {c : Config} (h : c.PayloadWf) :
    (helloPayload c).extractLsb' c.helloMajorLsb 16 = c.protocolVersion := by
  obtain ⟨-, hmajor, -, hmajorMinor, hmajorType, -⟩ := h
  simp [helloPayload, BitVec.extractLsb'_or, mgmtOf_extractLsb'_disjoint _ hmajorType,
    extractLsb'_placed_self _ hmajor, extractLsb'_placed_disjoint _ hmajorMinor.symm]

theorem helloPayload_minor {c : Config} (h : c.PayloadWf) :
    (helloPayload c).extractLsb' c.helloMinorLsb 16 = c.protocolVersion := by
  obtain ⟨-, -, hminor, hmajorMinor, -, hminorType, -⟩ := h
  simp [helloPayload, BitVec.extractLsb'_or, mgmtOf_extractLsb'_disjoint _ hminorType,
    extractLsb'_placed_self _ hminor, extractLsb'_placed_disjoint _ hmajorMinor]

theorem helloPayload_getLsbD_outside {c : Config} {b : Nat}
    (htype : ¬(c.mgmtTypeLsb ≤ b ∧ b < c.mgmtTypeLsb + 4))
    (hmajor : ¬(c.helloMajorLsb ≤ b ∧ b < c.helloMajorLsb + 16))
    (hminor : ¬(c.helloMinorLsb ≤ b ∧ b < c.helloMinorLsb + 16)) : (helloPayload c).getLsbD b = false := by
  simp only [helloPayload, BitVec.getLsbD_or, mgmtOf_getLsbD_outside _ htype,
    getLsbD_placed_outside _ hmajor, getLsbD_placed_outside _ hminor, Bool.or_self]

/-! Ping-ack (R83). -/

/-- The mask of the ping-ack clears the type field. -/
theorem mgmtType_and_not_ones {c : Config} (p : Payload) (h : c.mgmtTypeLsb + 4 ≤ 64) :
    mgmtType c (p &&& ~~~mgmtOf c (BitVec.allOnes 4)) = 0#4 := by
  apply BitVec.eq_of_getLsbD_eq
  intro i hi
  have hone : (mgmtOf c (BitVec.allOnes 4)).getLsbD (c.mgmtTypeLsb + i) = true := by
    rw [mgmtOf, getLsbD_placed_inside _ h hi, BitVec.getLsbD_allOnes, decide_eq_true hi]
  simp only [mgmtType, BitVec.getLsbD_extractLsb', BitVec.getLsbD_and, BitVec.getLsbD_not, hone, Bool.not_true,
    Bool.and_false, BitVec.getLsbD_zero]

theorem mgmtType_pingAckPayload {c : Config} (p : Payload) (h : c.mgmtTypeLsb + 4 ≤ 64) :
    mgmtType c (pingAckPayload c p) = 4 := by
  have hcleared : mgmtType c (p &&& ~~~mgmtOf c 0xF) = 0#4 := mgmtType_and_not_ones p h
  rw [pingAckPayload, mgmtType_or, hcleared, mgmtType_mgmtOf _ h]
  rfl

theorem pingAckPayload_getLsbD_outside {c : Config} (p : Payload) {b : Nat}
    (htype : ¬(c.mgmtTypeLsb ≤ b ∧ b < c.mgmtTypeLsb + 4)) :
    (pingAckPayload c p).getLsbD b = p.getLsbD b := by
  simp only [pingAckPayload, BitVec.getLsbD_or, BitVec.getLsbD_and, BitVec.getLsbD_not,
    mgmtOf_getLsbD_outside _ htype, Bool.not_false, Bool.and_true, Bool.or_false, Bool.and_eq_left_iff_imp,
    decide_eq_true_eq]
  exact BitVec.lt_of_getLsbD

/-! Rollcall (R84). -/

theorem rollcallPayload_eq (c : Config) (mask : Word) (block : BitVec 6) (ended : Bool) :
    rollcallPayload c mask block ended
      = mgmtOf c 8 ||| mask.setWidth 64 <<< c.rollcallMaskLsb ||| block.setWidth 64 <<< c.rollcallBlockLsb
        ||| (BitVec.ofBool ended).setWidth 64 <<< c.rollcallEndedBit := by
  cases ended <;> simp [rollcallPayload]

section
variable {c : Config} (mask : Word) (block : BitVec 6) (ended : Bool)

theorem mgmtType_rollcallPayload (h : c.PayloadWf) :
    mgmtType c (rollcallPayload c mask block ended) = 8 := by
  obtain ⟨htype, -, -, -, -, -, -, -, -, -, -, -, hmaskType, hblockType, hendedType, -⟩ := h
  simp [rollcallPayload_eq, mgmtType_or, mgmtType_mgmtOf _ htype, mgmtType_placed _ hmaskType,
    mgmtType_placed _ hblockType, mgmtType_placed _ hendedType]

theorem rollcallMask_rollcallPayload (h : c.PayloadWf) :
    rollcallMask c (rollcallPayload c mask block ended) = mask := by
  obtain ⟨-, -, -, -, -, -, hmask, -, -, hmaskBlock, hmaskEnded, -, hmaskType, -⟩ := h
  simp [rollcallMask, rollcallPayload_eq, BitVec.extractLsb'_or, mgmtOf_extractLsb'_disjoint _ hmaskType,
    extractLsb'_placed_self _ hmask, extractLsb'_placed_disjoint _ hmaskBlock.symm,
    extractLsb'_placed_disjoint _ hmaskEnded.symm]

theorem rollcallBlock_rollcallPayload (h : c.PayloadWf) :
    rollcallBlock c (rollcallPayload c mask block ended) = block := by
  obtain ⟨-, -, -, -, -, -, -, hblock, -, hmaskBlock, -, hblockEnded, -, hblockType, -⟩ := h
  simp [rollcallBlock, rollcallPayload_eq, BitVec.extractLsb'_or, mgmtOf_extractLsb'_disjoint _ hblockType,
    extractLsb'_placed_self _ hblock, extractLsb'_placed_disjoint _ hmaskBlock,
    extractLsb'_placed_disjoint _ hblockEnded.symm]

theorem rollcallEnded_rollcallPayload (h : c.PayloadWf) :
    rollcallEnded c (rollcallPayload c mask block ended) = ended := by
  obtain ⟨-, -, -, -, -, -, -, -, hended, -, hmaskEnded, hblockEnded, -, -, hendedType, -⟩ := h
  have hfield : (rollcallPayload c mask block ended).extractLsb' c.rollcallEndedBit 1 = BitVec.ofBool ended := by
    simp [rollcallPayload_eq, BitVec.extractLsb'_or, mgmtOf_extractLsb'_disjoint _ hendedType,
      extractLsb'_placed_self _ hended, extractLsb'_placed_disjoint _ hmaskEnded,
      extractLsb'_placed_disjoint _ hblockEnded]
  simpa [rollcallEnded] using congrArg (·.getLsbD 0) hfield

theorem rollcallPayload_getLsbD_outside {b : Nat}
    (htype : ¬(c.mgmtTypeLsb ≤ b ∧ b < c.mgmtTypeLsb + 4))
    (hmask : ¬(c.rollcallMaskLsb ≤ b ∧ b < c.rollcallMaskLsb + 32))
    (hblock : ¬(c.rollcallBlockLsb ≤ b ∧ b < c.rollcallBlockLsb + 6))
    (hended : b ≠ c.rollcallEndedBit) : (rollcallPayload c mask block ended).getLsbD b = false := by
  have hflag : ¬(c.rollcallEndedBit ≤ b ∧ b < c.rollcallEndedBit + 1) := by omega
  simp only [rollcallPayload_eq, BitVec.getLsbD_or, mgmtOf_getLsbD_outside _ htype,
    getLsbD_placed_outside _ hmask, getLsbD_placed_outside _ hblock,
    getLsbD_placed_outside (BitVec.ofBool ended) hflag, Bool.or_self]

end

/-! Power-state-ack (R85). -/

/-- The value 32 fits the power-state field, which has at least 6 bits. -/
theorem pwrStateOn_eq_setWidth {w : Nat} (h : 6 ≤ w) : pwrStateOn = (BitVec.ofNat w 32).setWidth 64 := by
  have hw : 32 < 2 ^ w := lt_of_lt_of_le (by decide) (Nat.pow_le_pow_right (by decide) h)
  apply BitVec.eq_of_toNat_eq
  simp [pwrStateOn, Nat.mod_eq_of_lt hw]

theorem powerStateAckPayload_eq {c : Config} (h : c.PayloadWf) :
    powerStateAckPayload c
      = mgmtOf c 7 ||| (BitVec.ofNat c.pwrStateWidth 32).setWidth 64 <<< c.pwrStateLsb := by
  obtain ⟨-, -, -, -, -, -, -, -, -, -, -, -, -, -, -, -, hwidth, -⟩ := h
  rw [powerStateAckPayload, pwrStateOn_eq_setWidth hwidth]

theorem mgmtType_powerStateAckPayload {c : Config} (h : c.PayloadWf) :
    mgmtType c (powerStateAckPayload c) = 7 := by
  obtain ⟨htype, -, -, -, -, -, -, -, -, -, -, -, -, -, -, -, -, hstateType⟩ := id h
  simp [powerStateAckPayload_eq h, mgmtType_or, mgmtType_mgmtOf _ htype, mgmtType_placed _ hstateType]

theorem powerStateAckPayload_state {c : Config} (h : c.PayloadWf) :
    (powerStateAckPayload c >>> c.pwrStateLsb).toNat % 2 ^ c.pwrStateWidth = 32 := by
  obtain ⟨-, -, -, -, -, -, -, -, -, -, -, -, -, -, -, hstate, hwidth, hstateType⟩ := id h
  have hw : 32 < 2 ^ c.pwrStateWidth := lt_of_lt_of_le (by decide) (Nat.pow_le_pow_right (by decide) hwidth)
  have hfield : (powerStateAckPayload c).extractLsb' c.pwrStateLsb c.pwrStateWidth
      = BitVec.ofNat c.pwrStateWidth 32 := by
    simp [powerStateAckPayload_eq h, BitVec.extractLsb'_or, mgmtOf_extractLsb'_disjoint _ hstateType,
      extractLsb'_placed_self _ hstate]
  simpa [BitVec.extractLsb'_toNat, Nat.mod_eq_of_lt hw] using congrArg BitVec.toNat hfield

theorem powerStateAckPayload_getLsbD_outside {c : Config} (h : c.PayloadWf) {b : Nat}
    (htype : ¬(c.mgmtTypeLsb ≤ b ∧ b < c.mgmtTypeLsb + 4))
    (hstate : ¬(c.pwrStateLsb ≤ b ∧ b < c.pwrStateLsb + c.pwrStateWidth)) :
    (powerStateAckPayload c).getLsbD b = false := by
  simp only [powerStateAckPayload_eq h, BitVec.getLsbD_or, mgmtOf_getLsbD_outside _ htype,
    getLsbD_placed_outside _ hstate, Bool.or_self]

/-- The reference description of a send is `MB.SEND` (40_mailbox_ops.md R100). -/
theorem mbSend_eq_sent (q : QId) (m : Message) (s : State) : mbSend q m s = Claims.sent q m s := by
  cases q <;> rfl

theorem sendMgmt_eq_sent (p : Payload) (s : State) :
    sendMgmt p s = Claims.sent .ap (Claims.mgmtMessage p) s :=
  mbSend_eq_sent .ap _ s

/-- Settles O50: each outbound row is `sendMgmt` of its payload, whose fields are read back one by one. -/
theorem outboundPayloadsAreSent : Obligations.OutboundPayloadsAreSent := by
  intro mask block ended ping s h
  have hsend (p : Payload) :
      (Host.Outcome.next (sendMgmt p s) : Host.Outcome State Fault Refusal)
        = .next (Claims.sent .ap (Claims.mgmtMessage p) s) :=
    congrArg _ (sendMgmt_eq_sent p s)
  refine ⟨⟨helloPayload s.cfg, hsend _, mgmtType_helloPayload h, helloPayload_major h, helloPayload_minor h, ?_⟩,
    ⟨pingAckPayload s.cfg ping, hsend _, mgmtType_pingAckPayload ping h.1, ?_⟩,
    ⟨rollcallPayload s.cfg mask block ended, hsend _, mgmtType_rollcallPayload _ _ _ h,
      rollcallMask_rollcallPayload _ _ _ h, rollcallBlock_rollcallPayload _ _ _ h,
      rollcallEnded_rollcallPayload _ _ _ h, ?_⟩,
    ⟨powerStateAckPayload s.cfg, hsend _, mgmtType_powerStateAckPayload h, powerStateAckPayload_state h, ?_⟩⟩
  · exact fun _ => helloPayload_getLsbD_outside
  · exact fun _ => pingAckPayload_getLsbD_outside ping
  · exact fun _ => rollcallPayload_getLsbD_outside mask block ended
  · exact fun _ => powerStateAckPayload_getLsbD_outside h

end Sys2Proof.Machine
end

section
/-! PROOFS. The words that a queue's count is written into: the status word (30_encoding.md R76,
40_mailbox_ops.md R108) and the depth stamp (30_encoding.md R72). -/

namespace Sys2Proof.Machine

/-- The status word bit by bit: the five flags and the count field (40_mailbox_ops.md R108). -/
theorem statusWord_getLsbD {c : Config} (h : c.ctrlCountLsb + c.ctrlCountWidth ≤ 32) (x : QueueState) {b : Nat}
    (hb : b < 32) :
    (statusWord c x).getLsbD b
      = ((x.en && decide (b = ctrlEnableBit)) || (isFull x && decide (b = c.ctrlFullBit))
        || (isEmpty x && decide (b = c.ctrlEmptyBit)) || (isOverflow x && decide (b = c.ctrlOverflowBit))
        || (x.underflow && decide (b = c.ctrlUnderflowBit))
        || (decide (c.ctrlCountLsb ≤ b) && decide (b < c.ctrlCountLsb + c.ctrlCountWidth)
          && x.count.testBit (b - c.ctrlCountLsb))) := by
  simp only [statusWord, BitVec.getLsbD_or, flagBit_getLsbD, countField_getLsbD _ _ h, hb, decide_true,
    Bool.and_true]

/-- At a flag's position the count field is not. -/
theorem statusWord_getLsbD_flag {c : Config} (h : c.BitsWf) (x : QueueState) {b : Nat}
    (hmem : b ∈ [ctrlEnableBit, c.ctrlFullBit, c.ctrlEmptyBit, c.ctrlOverflowBit, c.ctrlUnderflowBit]) :
    (statusWord c x).getLsbD b
      = ((x.en && decide (b = ctrlEnableBit)) || (isFull x && decide (b = c.ctrlFullBit))
        || (isEmpty x && decide (b = c.ctrlEmptyBit)) || (isOverflow x && decide (b = c.ctrlOverflowBit))
        || (x.underflow && decide (b = c.ctrlUnderflowBit))) := by
  obtain ⟨-, -, -, hflags, hcount, -⟩ := h
  obtain ⟨hb, hdisjoint⟩ := hflags b hmem
  have hout : (decide (c.ctrlCountLsb ≤ b) && decide (b < c.ctrlCountLsb + c.ctrlCountWidth)) = false := by
    rw [Bool.and_eq_false_iff, decide_eq_false_iff_not, decide_eq_false_iff_not]
    rcases hdisjoint with hd | hd <;> omega
  rw [statusWord_getLsbD hcount x hb, hout, Bool.false_and, Bool.or_false]

/-- The five flag positions differ, so each flag is read at its own. -/
theorem statusWord_flags {c : Config} (h : c.BitsWf) (x : QueueState) :
    (statusWord c x).getLsbD ctrlEnableBit = x.en
    ∧ (statusWord c x).getLsbD c.ctrlFullBit = isFull x
    ∧ (statusWord c x).getLsbD c.ctrlEmptyBit = isEmpty x
    ∧ (statusWord c x).getLsbD c.ctrlOverflowBit = isOverflow x
    ∧ (statusWord c x).getLsbD c.ctrlUnderflowBit = x.underflow := by
  have hread {b : Nat} := statusWord_getLsbD_flag h x (b := b)
  obtain ⟨-, -, hnodup, -⟩ := h
  simp only [List.nodup_cons, List.mem_cons, List.not_mem_nil, or_false, not_or] at hnodup
  obtain ⟨⟨h01, h02, h03, h04⟩, ⟨h12, h13, h14⟩, ⟨h23, h24⟩, h34, -⟩ := hnodup
  refine ⟨?_, ?_, ?_, ?_, ?_⟩
  · rw [hread (by simp)]; simp [h01, h02, h03, h04]
  · rw [hread (by simp)]; simp [Ne.symm h01, h12, h13, h14]
  · rw [hread (by simp)]; simp [Ne.symm h02, Ne.symm h12, h23, h24]
  · rw [hread (by simp)]; simp [Ne.symm h03, Ne.symm h13, Ne.symm h23, h34]
  · rw [hread (by simp)]; simp [Ne.symm h04, Ne.symm h14, Ne.symm h24, Ne.symm h34]

/-- The count field holds the count modulo its width: no flag lies inside it. -/
theorem statusWord_count {c : Config} (h : c.BitsWf) (x : QueueState) :
    (statusWord c x >>> c.ctrlCountLsb).toNat % 2 ^ c.ctrlCountWidth = x.count % 2 ^ c.ctrlCountWidth := by
  obtain ⟨-, -, -, hflags, hcount, -⟩ := h
  apply Nat.eq_of_testBit_eq
  intro i
  rw [Nat.testBit_mod_two_pow, Nat.testBit_mod_two_pow, BitVec.testBit_toNat, BitVec.getLsbD_ushiftRight]
  by_cases hi : i < c.ctrlCountWidth
  · have hne : ∀ b ∈ [ctrlEnableBit, c.ctrlFullBit, c.ctrlEmptyBit, c.ctrlOverflowBit, c.ctrlUnderflowBit],
        c.ctrlCountLsb + i ≠ b := by
      intro b hb
      rcases (hflags b hb).2 with hd | hd <;> omega
    simp only [List.forall_mem_cons] at hne
    obtain ⟨hen, hfull, hempty, hover, hunder, -⟩ := hne
    rw [statusWord_getLsbD hcount x (by omega), decide_eq_false hen, decide_eq_false hfull, decide_eq_false hempty,
      decide_eq_false hover, decide_eq_false hunder]
    simp [hi]
  · simp [hi]

theorem statusWord_getLsbD_outside {c : Config} (h : c.ctrlCountLsb + c.ctrlCountWidth ≤ 32) (x : QueueState)
    {b : Nat}
    (hb : b ∉ [ctrlEnableBit, c.ctrlFullBit, c.ctrlEmptyBit, c.ctrlOverflowBit, c.ctrlUnderflowBit])
    (hcount : ¬(c.ctrlCountLsb ≤ b ∧ b < c.ctrlCountLsb + c.ctrlCountWidth)) :
    (statusWord c x).getLsbD b = false := by
  have hout : (decide (c.ctrlCountLsb ≤ b) && decide (b < c.ctrlCountLsb + c.ctrlCountWidth)) = false := by
    simpa using hcount
  simp only [List.mem_cons, List.not_mem_nil, or_false, not_or] at hb
  obtain ⟨hen, hfull, hempty, hover, hunder⟩ := hb
  by_cases hlt : b < 32
  · simp [statusWord_getLsbD h x hlt, hout, hen, hfull, hempty, hover, hunder]
  · exact BitVec.getLsbD_of_ge _ _ (by omega)

theorem exec_controlRead {w : Win} {q : QId} {i : Instr} (hi : i ∈ Claims.controlReads w q) (s : State) :
    exec i s = .next (readControl q s) := by
  cases q with
  | iop | ap =>
    simp only [Claims.controlReads, List.mem_cons, List.not_mem_nil, or_false] at hi
    rcases hi with rfl | rfl | rfl <;> rfl

/-- Settles O23: every control read returns `STATUS(q)`, whose bits `statusWord_getLsbD` gives. -/
theorem controlReadReturnsStatusFields : Obligations.ControlReadReturnsStatusFields := by
  intro w q s h i hi
  obtain ⟨hen, hfull, hempty, hover, hunder⟩ := statusWord_flags h (s.queue q)
  obtain ⟨-, -, -, -, hcount, -⟩ := id h
  exact ⟨statusWord s.cfg (s.queue q), exec_controlRead hi s, hen, hfull, hempty, hover, hunder,
    statusWord_count h _, fun _ hb hc => statusWord_getLsbD_outside hcount _ hb hc⟩

/-! The depth stamp. -/

theorem depthMask_getLsbD {c : Config} (h : c.flagsDepthWidth ≤ 32) (b : Nat) :
    (depthMask c).getLsbD b = decide (b < c.flagsDepthWidth) := by
  have hones : 2 ^ c.flagsDepthWidth - 1 = (2 ^ c.flagsDepthWidth - 1) % 2 ^ c.flagsDepthWidth :=
    (Nat.mod_eq_of_lt (Nat.sub_one_lt (Nat.two_pow_pos _).ne')).symm
  rw [depthMask, hones, countField_getLsbD _ _ (by simpa [flagsDepthLsb] using h)]
  simp [flagsDepthLsb, Nat.testBit_two_pow_sub_one]

/-- The stamped flags bit by bit: the depth inside its field, the flags as sent outside. -/
theorem stampDepth_flags_getLsbD {c : Config} (h : c.flagsDepthWidth ≤ 32) (depth : Nat) (m : Message) (b : Nat) :
    (stampDepth c depth m).flags.getLsbD b
      = if b < c.flagsDepthWidth then depth.testBit b else m.flags.getLsbD b := by
  simp only [stampDepth, BitVec.getLsbD_or, BitVec.getLsbD_and, BitVec.getLsbD_not, depthMask_getLsbD h,
    countField_getLsbD depth b (l := flagsDepthLsb) (w := c.flagsDepthWidth) (by simpa [flagsDepthLsb] using h)]
  split
  · next hb => simp [flagsDepthLsb, hb]
  · next hb => simpa [flagsDepthLsb, hb] using BitVec.lt_of_getLsbD

/-- Settles O28: the stamp changes only the flags, and those as `stampDepth_flags_getLsbD` says. -/
theorem depthStampReplacesOnlyItsField : Obligations.DepthStampReplacesOnlyItsField := by
  intro c depth m b h
  refine ⟨rfl, rfl, fun hb => ?_, fun hb => ?_⟩
  · rw [stampDepth_flags_getLsbD h, if_pos hb]
  · rw [stampDepth_flags_getLsbD h, if_neg (Nat.not_lt.mpr hb)]

end Sys2Proof.Machine
end

section
/-! PROOFS. The number and the bytes of a request (30_encoding.md R91; log entry 2): the bytes spell the
number, and each part of an access is read back from the number that spells it. -/

namespace Sys2Proof

open Sys2Proof.Machine

/-! ### Small codes -/

@[simp] theorem sizeOfCode_sizeCode (size : Size) : sizeOfCode (sizeCode size) = size := by
  cases size <;> rfl

theorem sizeCode_sizeOfCode {n : Nat} (h : n < 4) : sizeCode (sizeOfCode n) = n := by
  match n, h with
  | 0, _ | 1, _ | 2, _ | 3, _ => rfl

theorem sizeCode_lt (size : Size) : sizeCode size < 4 := by
  cases size <;> decide

theorem dirBit_lt (dir : Dir) : dirBit dir < 2 := by
  cases dir <;> decide

@[simp] theorem ite_dirBit (dir : Dir) : (if dirBit dir = 1 then Dir.write else .read) = dir := by
  cases dir <;> rfl

theorem dirBit_ite {n : Nat} (h : n < 2) : dirBit (if n = 1 then .write else .read) = n := by
  match n, h with
  | 0, _ | 1, _ => rfl

@[simp] theorem queueOfByte_queueByte (q : QId) : queueOfByte (queueByte q) = .ok q := by
  cases q <;> rfl

theorem queueByte_of_queueOfByte {n : Nat} {q : QId} (h : queueOfByte n = .ok q) : queueByte q = n := by
  unfold queueOfByte at h
  split at h <;> cases h <;> rfl

theorem queueByte_lt (q : QId) : queueByte q < 2 := by
  cases q <;> decide

@[simp] theorem winOfByte_winByte (w : Win) : winOfByte (winByte w) = .ok w := by
  cases w <;> rfl

theorem winByte_of_winOfByte {n : Nat} {w : Win} (h : winOfByte n = .ok w) : winByte w = n := by
  unfold winOfByte at h
  split at h <;> cases h <;> rfl

theorem winByte_lt (w : Win) : winByte w < 2 := by
  cases w <;> decide

@[simp] theorem boolOfByte_toNat (b : Bool) : boolOfByte b.toNat = .ok b := by
  cases b <;> rfl

theorem toNat_of_boolOfByte {n : Nat} {b : Bool} (h : boolOfByte n = .ok b) : b.toNat = n := by
  unfold boolOfByte at h
  split at h <;> cases h <;> rfl

/-! ### The message image (30_encoding.md R70) -/

theorem imageMessage_messageImage (m : Message) : imageMessage (messageImage m) = m := by
  have hmsg : (messageImage m).extractLsb' 0 64 = m.msg := BitVec.extractLsb'_append_eq_right
  have hendpoint : (messageImage m).extractLsb' 64 32 = m.endpoint := by
    rw [messageImage, BitVec.extractLsb'_append_eq_of_le (by decide), BitVec.extractLsb'_append_eq_right]
  have hflags : (messageImage m).extractLsb' 96 32 = m.flags := by
    rw [messageImage, BitVec.extractLsb'_append_eq_of_le (by decide), BitVec.extractLsb'_append_eq_left]
  rw [imageMessage, hmsg, hendpoint, hflags]

theorem messageImage_imageMessage (b : BitVec 128) : messageImage (imageMessage b) = b := by
  simp only [messageImage, imageMessage]
  rw [BitVec.extractLsb'_append_extractLsb'_eq_extractLsb' (by rfl),
    BitVec.extractLsb'_append_extractLsb'_eq_extractLsb' (by rfl), BitVec.extractLsb'_eq_self]

theorem messageNat_lt (m : Message) : messageNat m < 2 ^ 128 := (messageImage m).isLt

@[simp] theorem messageOfNat_messageNat (m : Message) : messageOfNat (messageNat m) = m := by
  rw [messageOfNat, messageNat, BitVec.ofNat_toNat, BitVec.setWidth_eq, imageMessage_messageImage]

theorem messageNat_messageOfNat {n : Nat} (h : n < 2 ^ 128) : messageNat (messageOfNat n) = n := by
  rw [messageNat, messageOfNat, messageImage_imageMessage, BitVec.toNat_ofNat, Nat.mod_eq_of_lt h]

/-! ### The number of an access (30_encoding.md R91) -/

theorem accessNat_lt {dir : Dir} {size : Size} {off val : Nat} (ho : off < 2 ^ 44) (hv : val < 2 ^ 64) :
    accessNat dir size off val < 2 ^ 112 := by
  have hdir := dirBit_lt dir
  have hsize := sizeCode_lt size
  unfold accessNat
  omega

/-- Each part of an access is read back from its number. -/
theorem decodeAccess_accessNat (c : Config) (sp : Space) (dir : Dir) (size : Size) {off val : Nat}
    (ho : off < 2 ^ 44) (hv : val < 2 ^ 64) :
    decodeAccess c sp (accessNat dir size off val) = decodeParts c sp dir size off val := by
  have hdir := dirBit_lt dir
  have hsize := sizeCode_lt size
  have hlow : accessNat dir size off val % 2 ^ 12 = off % 2 ^ 12 := by unfold accessNat; omega
  have hdiv12 : accessNat dir size off val / 2 ^ 12
      = dirBit dir + 2 * (sizeCode size + 8 * val + 2 ^ 67 * (off / 2 ^ 12)) := by unfold accessNat; omega
  have hdiv13 : accessNat dir size off val / 2 ^ 13
      = sizeCode size + 4 * (2 * val + 2 ^ 65 * (off / 2 ^ 12)) := by unfold accessNat; omega
  have hdiv15 : accessNat dir size off val / 2 ^ 15 = 2 * (val + 2 ^ 64 * (off / 2 ^ 12)) := by
    unfold accessNat; omega
  have hdiv16 : accessNat dir size off val / 2 ^ 16 = val + 2 ^ 64 * (off / 2 ^ 12) := by unfold accessNat; omega
  have hdiv80 : accessNat dir size off val / 2 ^ 80 = off / 2 ^ 12 := by unfold accessNat; omega
  have hreserved : accessNat dir size off val / 2 ^ 15 % 2 ≠ 1 := by omega
  have hdirBit : accessNat dir size off val / 2 ^ 12 % 2 = dirBit dir := by omega
  have hsizeCode : accessNat dir size off val / 2 ^ 13 % 4 = sizeCode size := by omega
  have hoff : off % 2 ^ 12 + 2 ^ 12 * (off / 2 ^ 12 % 2 ^ 32) = off := by omega
  have hval : (val + 2 ^ 64 * (off / 2 ^ 12)) % 2 ^ 64 = val := by omega
  rw [decodeAccess, if_neg hreserved, hdirBit, hsizeCode, hlow, hdiv80, hoff, hdiv16, hval, ite_dirBit,
    sizeOfCode_sizeCode]

/-- A number without the reserved bit is spelt by its parts. -/
theorem accessNat_parts {v : Nat} (hv : v < 2 ^ 112) (hreserved : v / 2 ^ 15 % 2 ≠ 1) :
    accessNat (if v / 2 ^ 12 % 2 = 1 then .write else .read) (sizeOfCode (v / 2 ^ 13 % 4))
      (v % 2 ^ 12 + 2 ^ 12 * (v / 2 ^ 80 % 2 ^ 32)) (v / 2 ^ 16 % 2 ^ 64) = v := by
  rw [accessNat, dirBit_ite (by omega), sizeCode_sizeOfCode (by omega)]
  omega

/-! ### The bytes of a request -/

theorem leNat_leBytes_of_lt {n v : Nat} (h : v < 256 ^ n) : leNat (leBytes n v) = v := by
  rw [leNat_leBytes, Nat.mod_eq_of_lt h]

theorem decode_encodeAccess (c : Config) (sp : Space) (dir : Dir) (size : Size) {off val : Nat}
    (ho : off < 2 ^ 44) (hv : val < 2 ^ 64) :
    decode c (encodeAccess sp dir size off val) = decodeParts c sp dir size off val := by
  have hbytes : leNat (leBytes accessBytes (accessNat dir size off val)) = accessNat dir size off val :=
    leNat_leBytes_of_lt (accessNat_lt ho hv)
  simp [decode, encodeAccess, portBytes, hbytes, decodeAccess_accessNat c sp dir size ho hv]

theorem leNat_payloadBytes (p : Payload) : leNat (leBytes 8 p.toNat) = p.toNat :=
  leNat_leBytes_of_lt p.isLt

theorem decode_encodeMgmtIn (c : Config) (p : Payload) : decode c (encodeMgmtIn p) = .ok (decodeMgmtIn c p) := by
  simp [decode, encodeMgmtIn, portBytes, leNat_payloadBytes]

theorem decode_encodeMgmtOut (c : Config) (p : Payload) : decode c (encodeMgmtOut p) = decodeMgmtOut c p := by
  simp [decode, encodeMgmtOut, portBytes, leNat_payloadBytes]

theorem decode_encodeNamed (c : Config) {n : OpName} {v : Nat} (h : v < 256 ^ opBytes n) :
    decode c (encodeNamed n v) = decodeNamed c n v := by
  simp [decode, encodeNamed, portBytes, leNat_leBytes_of_lt h]

end Sys2Proof
end

section
/-! PROOFS. The register maps (30_encoding.md R74, R75, R78, R89): which offset stands for which register, and
the row that an access to it is. -/

namespace Sys2Proof

open Sys2Proof.Machine

/-- A row of a map without repeated offsets is the one that a lookup finds. -/
theorem lookup_eq_some_of_mem {off : Nat} {r : Reg} {l : List (Nat × Reg)} (hnodup : (l.map Prod.fst).Nodup)
    (h : (off, r) ∈ l) : l.lookup off = some r := by
  obtain ⟨l₁, l₂, rfl⟩ := List.append_of_mem h
  refine List.lookup_eq_some_iff.mpr ⟨l₁, l₂, rfl, fun p hp => ?_⟩
  rw [List.map_append, List.nodup_append] at hnodup
  have hne : p.1 ≠ off := hnodup.2.2 p.1 (List.mem_map_of_mem hp) off (by simp)
  simpa using Ne.symm hne

/-- The rows of the V4 map with fixed offsets: the send and receive words (30_encoding.md R75). -/
def v4Slots : List (Nat × Reg) :=
  [(0x700, .send .iop 0), (0x704, .send .iop 1), (0x708, .send .iop 2), (0x70C, .send .iop 3),
   (0x710, .recv .iop 0), (0x714, .recv .iop 1), (0x718, .recv .iop 2), (0x71C, .recv .iop 3),
   (0x720, .send .ap 0), (0x724, .send .ap 1), (0x728, .send .ap 2), (0x72C, .send .ap 3),
   (0x730, .recv .ap 0), (0x734, .recv .ap 1), (0x738, .recv .ap 2), (0x73C, .recv .ap 3)]

theorem v4Map_eq (c : Config) :
    v4Map c = [(c.v4OffMaskSet, .maskSet), (c.v4OffMaskClr, .maskClr), (c.v4OffIopCtrl, .ctrl .iop),
      (c.v4OffApCtrl, .ctrl .ap)] ++ v4Slots := rfl

/-- The offsets of the four V4 control registers differ and lie below those of the words. -/
theorem v4Map_nodup {c : Config} (h : c.OffsetsWf) : ((v4Map c).map Prod.fst).Nodup := by
  obtain ⟨hnodup, hlow, -⟩ := h
  have hslots : ∀ o ∈ v4Slots.map Prod.fst, 0x700 ≤ o := by decide
  rw [v4Map_eq, List.map_append, List.nodup_append]
  refine ⟨hnodup, by decide, fun o ho o' ho' => ?_⟩
  have hlt := (hlow o ho).2
  have hge := hslots o' ho'
  omega

/-- Every V2 row lies aligned inside the smallest V2 window. -/
theorem v2Map_range : ∀ p ∈ v2Map, p.1 % 4 = 0 ∧ p.1 < 0x40 := by decide

/-- Every V4 row lies aligned inside the smallest V4 window. -/
theorem v4Map_range {c : Config} (h : c.OffsetsWf) : ∀ p ∈ v4Map c, p.1 % 4 = 0 ∧ p.1 < 0x740 := by
  obtain ⟨-, hlow, -⟩ := h
  have hslots : ∀ p ∈ v4Slots, p.1 % 4 = 0 ∧ p.1 < 0x740 := by decide
  intro p hp
  rw [v4Map_eq, List.mem_append] at hp
  rcases hp with hp | hp
  · obtain ⟨halign, hlt⟩ := hlow p.1 (List.mem_map_of_mem (f := Prod.fst) hp)
    exact ⟨halign, by omega⟩
  · exact hslots p hp

/-! ### An access to a row of the map decodes to the row's operation -/

/-- An aligned 32-bit access passes the decoder's checks of the data, the size and the alignment. -/
theorem wordAccess_guards {dir : Dir} {off : Nat} {val : Word} (hd : dir = .write ∨ val = 0)
    (halign : off % 4 = 0) :
    ¬(dir = .read ∧ val.toNat ≠ 0) ∧ ¬2 ^ (8 * sizeBytes .b4) ≤ val.toNat ∧ ¬aligned32 .b4 off = false := by
  refine ⟨?_, Nat.not_le.mpr val.isLt, by simp [aligned32, halign]⟩
  rcases hd with rfl | rfl <;> simp

theorem decode_encodeAccess_window (c : Config) (w : Win) (dir : Dir) {off : Nat} (val : Word)
    (hd : dir = .write ∨ val = 0) (halign : off % 4 = 0) (hlt : off < c.mmioSize) (ho : off < 2 ^ 44) :
    decode c (encodeAccess (.window w) dir .b4 off val.toNat) = .ok (decodeWindow c w dir off val) := by
  have hv := val.isLt
  have hinside : ¬insideSpace c (.window w) off = false := by simpa [insideSpace] using hlt
  obtain ⟨hread, hwide, haligned⟩ := wordAccess_guards hd halign
  rw [decode_encodeAccess c _ _ _ ho (by omega), decodeParts, if_neg hread, if_neg hwide, if_neg hinside,
    if_neg haligned, BitVec.ofNat_toNat, BitVec.setWidth_eq]

theorem decode_encodeAccess_control (c : Config) (dir : Dir) {off : Nat} (val : Word)
    (hd : dir = .write ∨ val = 0) (halign : off % 4 = 0) (ho : off < 2 ^ 44) :
    decode c (encodeAccess .control dir .b4 off val.toNat) = .ok (decodeControl c dir off val) := by
  have hv := val.isLt
  have hinside : ¬insideSpace c .control off = false := by simp [insideSpace]
  obtain ⟨hread, hwide, haligned⟩ := wordAccess_guards hd halign
  rw [decode_encodeAccess c _ _ _ ho (by omega), decodeParts, if_neg hread, if_neg hwide, if_neg hinside,
    if_neg haligned, BitVec.ofNat_toNat, BitVec.setWidth_eq]

/-- An access to a register of the V2 map is the register's row. -/
theorem decode_v2Access {c : Config} (hc : c.OffsetsWf) (hg : c.gen = .v2) {w : Win} {dir : Dir} {off : Nat}
    {r : Reg} {val : Word} {i : Instr} (hd : dir = .write ∨ val = 0) (hr : v2Map.lookup off = some r)
    (hi : v2Instr w dir r val = some i) :
    decode c (encodeAccess (.window w) dir .b4 off val.toNat) = .ok i := by
  obtain ⟨-, -, -, -, -, -, -, hsize⟩ := hc
  rw [if_pos hg] at hsize
  obtain ⟨halign, hlt⟩ := v2Map_range _ (mem_of_lookup_eq_some hr)
  rw [decode_encodeAccess_window c w dir val hd halign (by omega) (by omega)]
  simp [decodeWindow, regAt, hg, hr, hi]

/-- An access to a register of the V4 map is the register's row. -/
theorem decode_v4Access {c : Config} (hc : c.OffsetsWf) (hg : c.gen = .v4) {w : Win} {dir : Dir} {off : Nat}
    {r : Reg} {val : Word} {i : Instr} (hd : dir = .write ∨ val = 0) (hr : (off, r) ∈ v4Map c)
    (hi : v4Instr w dir r val = some i) :
    decode c (encodeAccess (.window w) dir .b4 off val.toNat) = .ok i := by
  obtain ⟨halign, hlt⟩ := v4Map_range hc _ hr
  have hlookup := lookup_eq_some_of_mem (v4Map_nodup hc) hr
  obtain ⟨-, -, -, -, -, -, -, hsize⟩ := hc
  simp only [hg, reduceCtorEq, if_false] at hsize
  rw [decode_encodeAccess_window c w dir val hd halign (by omega) (by omega)]
  simp [decodeWindow, regAt, hg, hlookup, hi]

section
variable {c : Config} {w : Win} {off : Nat} {r : Reg} {i : Instr}

theorem decode_encodeWrite_v2 {val : Word} (hc : c.OffsetsWf) (hg : c.gen = .v2) (hr : v2Map.lookup off = some r)
    (hi : v2Instr w .write r val = some i) : decode c (encodeWrite w off val) = .ok i :=
  decode_v2Access hc hg (.inl rfl) hr hi

theorem decode_encodeRead_v2 (hc : c.OffsetsWf) (hg : c.gen = .v2) (hr : v2Map.lookup off = some r)
    (hi : v2Instr w .read r 0 = some i) : decode c (encodeRead w off) = .ok i :=
  decode_v2Access (val := 0) hc hg (.inr rfl) hr hi

theorem decode_encodeWrite_v4 {val : Word} (hc : c.OffsetsWf) (hg : c.gen = .v4) (hr : (off, r) ∈ v4Map c)
    (hi : v4Instr w .write r val = some i) : decode c (encodeWrite w off val) = .ok i :=
  decode_v4Access hc hg (.inl rfl) hr hi

theorem decode_encodeRead_v4 (hc : c.OffsetsWf) (hg : c.gen = .v4) (hr : (off, r) ∈ v4Map c)
    (hi : v4Instr w .read r 0 = some i) : decode c (encodeRead w off) = .ok i :=
  decode_v4Access (val := 0) hc hg (.inr rfl) hr hi

theorem mem_v4Map_of_v4Slots (hr : v4Slots.lookup off = some r) : (off, r) ∈ v4Map c :=
  v4Map_eq c ▸ List.mem_append_right _ (mem_of_lookup_eq_some hr)

end

/-! ### The row of an access is encoded as that access -/

theorem exists_v2Instr_encode (c : Config) (w : Win) {dir : Dir} {val : Word} (hd : dir = .write ∨ val = 0) :
    ∀ p ∈ v2Map, ∃ i, v2Instr w dir p.2 val = some i
      ∧ encode c i = encodeAccess (.window w) dir .b4 p.1 val.toNat := by
  simp only [v2Map, List.forall_mem_cons, List.not_mem_nil, false_implies, implies_true, and_true]
  cases dir with
  | write => and_intros <;> exact ⟨_, rfl, rfl⟩
  | read =>
    obtain rfl : val = 0 := by simpa using hd
    and_intros <;> exact ⟨_, rfl, rfl⟩

theorem exists_v4Instr_encode (c : Config) (w : Win) {dir : Dir} {val : Word} (hd : dir = .write ∨ val = 0) :
    ∀ p ∈ v4Map c, ∃ i, v4Instr w dir p.2 val = some i
      ∧ encode c i = encodeAccess (.window w) dir .b4 p.1 val.toNat := by
  simp only [v4Map, List.forall_mem_cons, List.not_mem_nil, false_implies, implies_true, and_true]
  cases dir with
  | write => and_intros <;> exact ⟨_, rfl, rfl⟩
  | read =>
    obtain rfl : val = 0 := by simpa using hd
    and_intros <;> exact ⟨_, rfl, rfl⟩

theorem encode_decodeWindow (c : Config) (w : Win) {dir : Dir} (off : Nat) {val : Word}
    (hd : dir = .write ∨ val = 0) :
    encode c (decodeWindow c w dir off val) = encodeAccess (.window w) dir .b4 off val.toNat := by
  cases hr : regAt c off with
  | none => cases hg : c.gen <;> simp [decodeWindow, hg, hr, encode]
  | some r =>
    cases hg : c.gen with
    | v2 =>
      have hmem : (off, r) ∈ v2Map := mem_of_lookup_eq_some (by simpa [regAt, hg] using hr)
      obtain ⟨i, hi, hencode⟩ := exists_v2Instr_encode c w hd _ hmem
      simpa [decodeWindow, hg, hr, hi] using hencode
    | v4 =>
      have hmem : (off, r) ∈ v4Map c := mem_of_lookup_eq_some (by simpa [regAt, hg] using hr)
      obtain ⟨i, hi, hencode⟩ := exists_v4Instr_encode c w hd _ hmem
      simpa [decodeWindow, hg, hr, hi] using hencode

theorem encode_decodeControl (c : Config) {dir : Dir} (off : Nat) {val : Word} (hd : dir = .write ∨ val = 0) :
    encode c (decodeControl c dir off val) = encodeAccess .control dir .b4 off val.toNat := by
  unfold decodeControl
  split
  · next hctrl =>
    subst hctrl
    rcases hd with rfl | rfl
    · rfl
    · cases dir <;> rfl
  · split
    · next hstatus =>
      subst hstatus
      rcases hd with rfl | rfl
      · rfl
      · cases dir <;> rfl
    · rfl

end Sys2Proof
end

section
/-! PROOFS. A request that decodes is the encoding of its operation (30_encoding.md R73, R91): one lemma for each
format, then the decoder as a whole. -/

namespace Sys2Proof

open Sys2Proof.Machine

theorem encode_decodeParts {c : Config} {sp : Space} {dir : Dir} {size : Size} {off val : Nat} {i : Instr}
    (h : decodeParts c sp dir size off val = .ok i) : encode c i = encodeAccess sp dir size off val := by
  unfold decodeParts at h
  split at h
  · cases h
  next hread =>
  split at h
  · cases h
  next hwide =>
  split at h
  · cases h
  split at h
  · cases h; rfl
  next hal =>
  obtain ⟨rfl, -⟩ : size = .b4 ∧ off % 4 = 0 := by simpa [aligned32] using hal
  have hval : (BitVec.ofNat 32 val).toNat = val := by simpa [sizeBytes] using hwide
  have hd : dir = .write ∨ BitVec.ofNat 32 val = 0 := by
    cases dir with
    | write => exact .inl rfl
    | read =>
      obtain rfl : val = 0 := by simpa using hread
      exact .inr rfl
  split at h <;> cases h
  · rw [encode_decodeWindow c _ off hd, hval]
  · rw [encode_decodeControl c off hd, hval]

theorem encode_decodeAccess {c : Config} {sp : Space} {v : Nat} {i : Instr} (hv : v < 256 ^ accessBytes)
    (h : decodeAccess c sp v = .ok i) : encode c i = ⟨.space sp, leBytes accessBytes v⟩ := by
  unfold decodeAccess at h
  split at h
  · cases h
  next hreserved =>
  rw [encode_decodeParts h, encodeAccess, accessNat_parts hv hreserved]

theorem encode_decodeMgmtIn (c : Config) (p : Payload) : encode c (decodeMgmtIn c p) = encodeMgmtIn p := by
  unfold decodeMgmtIn
  split <;> rfl

theorem encode_decodeMgmtOut {c : Config} {p : Payload} {i : Instr} (h : decodeMgmtOut c p = .ok i) :
    encode c i = encodeMgmtOut p := by
  unfold decodeMgmtOut at h
  split at h
  · split at h <;> cases h
    next hp => exact congrArg encodeMgmtOut hp.symm
  · cases h; rfl
  · split at h <;> cases h
    next hp => exact congrArg encodeMgmtOut hp.symm
  · split at h <;> cases h
    next hp => exact congrArg encodeMgmtOut hp.1.symm
  · cases h

theorem except_map_eq_ok_iff {ε α β : Type} {x : Except ε α} {f : α → β} {b : β} :
    x.map f = .ok b ↔ ∃ a, x = .ok a ∧ b = f a := by
  cases x <;> simp [Except.map, eq_comm]

theorem encode_decodeNamed {c : Config} {n : OpName} {v : Nat} {i : Instr} (hv : v < 256 ^ opBytes n)
    (h : decodeNamed c n v = .ok i) : encode c i = encodeNamed n v := by
  have hfirst : v % 256 + 2 ^ 8 * (v / 256) = v := Nat.mod_add_div v 256
  cases n with
  | mbSend =>
    obtain ⟨q, hq, rfl⟩ := except_map_eq_ok_iff.mp h
    simp only [opBytes, msgBytes] at hv
    rw [encode, queueByte_of_queueOfByte hq, messageNat_messageOfNat (by omega), hfirst]
  | mbRecv | status =>
    obtain ⟨q, hq, rfl⟩ := except_map_eq_ok_iff.mp h
    have hbyte : v % 256 = v := Nat.mod_eq_of_lt hv
    rw [encode, queueByte_of_queueOfByte hq, hbyte]
  | mbSetIntMask | mbClrIntMask =>
    obtain ⟨w, hw, rfl⟩ := except_map_eq_ok_iff.mp h
    simp only [opBytes] at hv
    rw [encode, winByte_of_winOfByte hw, BitVec.toNat_ofNat, Nat.mod_eq_of_lt (a := v / 256) (by omega),
      hfirst]
  | mbSetDirEn =>
    cases hq : queueOfByte (v % 256) with
    | error e => simp [decodeNamed, hq, Except.bind] at h
    | ok q =>
      obtain ⟨b, hb, rfl⟩ := except_map_eq_ok_iff.mp (by simpa [decodeNamed, hq, Except.bind] using h)
      rw [encode, queueByte_of_queueOfByte hq, toNat_of_boolOfByte hb, hfirst]
  | sendToAp | sendToIop =>
    cases h
    rw [encode, messageNat_messageOfNat hv]
  | registerControlEndpoint | registerUserEndpoint =>
    cases h
    rw [encode, BitVec.toNat_ofNat, Nat.mod_add_div]
  | sendControlMessage | sendUserMessage =>
    cases h
    simp only [opBytes] at hv
    rw [encode, BitVec.toNat_ofNat, BitVec.toNat_ofNat, Nat.mod_eq_of_lt (a := v / 2 ^ 32) (by omega),
      Nat.mod_add_div]
  | mgmtDispatch =>
    cases h
    have hpayload : v % 2 ^ 64 = v := Nat.mod_eq_of_lt hv
    rw [encode, BitVec.toNat_ofNat, hpayload]
  | routeRegistered | routeUnregistered =>
    simp only [decodeNamed] at h
    split at h <;> cases h
    rw [encode, messageNat_messageOfNat hv]
  | receiveFromAp | receiveFromIop | startOrWakeup | buildRollcall | bhIop | bhAp | reset =>
    cases h
    obtain rfl : v = 0 := by simpa [opBytes] using hv
    rfl

/-- The converse round trip over the decoder as a whole: the bytes are those of the number they spell. -/
theorem encode_of_decode {c : Config} {r : Request} {i : Instr} (h : decode c r = .ok i) : encode c i = r := by
  obtain ⟨port, bytes⟩ := r
  unfold decode at h
  split at h
  · cases h
  next hlen =>
  have hlen : bytes.length = portBytes port := by simpa using hlen
  have hv : leNat bytes < 256 ^ portBytes port := hlen ▸ leNat_lt bytes
  have hbytes : leBytes (portBytes port) (leNat bytes) = bytes := hlen ▸ leBytes_leNat bytes
  cases port with
  | space sp => rw [encode_decodeAccess hv h]; exact congrArg _ hbytes
  | mgmtIn =>
    have hpayload : leNat bytes % 2 ^ 64 = leNat bytes := Nat.mod_eq_of_lt hv
    cases h
    rw [encode_decodeMgmtIn, encodeMgmtIn, BitVec.toNat_ofNat, hpayload]
    exact congrArg _ hbytes
  | mgmtOut =>
    have hpayload : leNat bytes % 2 ^ 64 = leNat bytes := Nat.mod_eq_of_lt hv
    rw [encode_decodeMgmtOut h, encodeMgmtOut, BitVec.toNat_ofNat, hpayload]
    exact congrArg _ hbytes
  | named n => rw [encode_decodeNamed hv h, encodeNamed]; exact congrArg _ hbytes

/-- Settles O2: one lemma for each format of a request, joined in `encode_of_decode`. -/
theorem encodeInvertsDecode : Obligations.EncodeInvertsDecode := fun _ _ _ => encode_of_decode

/-- Settles O3: it is what `decode_wellFormed` says. -/
theorem decodedOperationsAreWellFormed : Obligations.DecodedOperationsAreWellFormed := fun _ _ _ => decode_wellFormed

end Sys2Proof
end

section
/-! PROOFS. Decoding an encoded well-formed operation gives it back (30_encoding.md R73 to R91). -/

namespace Sys2Proof

open Sys2Proof.Machine

theorem decode_encode_regBadSize {c : Config} {sp : Space} {dir : Dir} {size : Size} {off val : Nat}
    (h : wellFormed c (.regBadSize sp dir size off val) = true) :
    decode c (encode c (.regBadSize sp dir size off val)) = .ok (.regBadSize sp dir size off val) := by
  simp only [wellFormed, Bool.and_eq_true, Bool.not_eq_true', Bool.or_eq_true, beq_iff_eq, decide_eq_true_eq] at h
  obtain ⟨⟨⟨⟨hbad, ho⟩, hinside⟩, hd⟩, hwide⟩ := h
  have hread : ¬(dir = .read ∧ val ≠ 0) := by
    rintro ⟨rfl, hne⟩
    exact hne (hd.resolve_left (by decide))
  have hbits : 8 * sizeBytes size ≤ 64 := by cases size <;> decide
  have hv : val < 2 ^ 64 := hwide.trans_le (Nat.pow_le_pow_right (by decide) hbits)
  rw [encode, decode_encodeAccess c sp dir size ho hv]
  unfold decodeParts
  rw [if_neg hread, if_neg (Nat.not_le.mpr hwide), if_neg (by simp [hinside]), if_pos hbad]

theorem decode_encode_v2Undefined {c : Config} {w : Win} {dir : Dir} {off : Nat} {val : Word}
    (h : wellFormed c (.v2Undefined w dir off val) = true) :
    decode c (encode c (.v2Undefined w dir off val)) = .ok (.v2Undefined w dir off val) := by
  simp only [wellFormed, Bool.and_eq_true, Bool.or_eq_true, beq_iff_eq, decide_eq_true_eq,
    Option.isNone_iff_eq_none] at h
  obtain ⟨⟨⟨⟨⟨hg, halign⟩, hlt⟩, ho⟩, hr⟩, hd⟩ := h
  rw [encode, decode_encodeAccess_window c w dir val hd halign hlt ho]
  simp [decodeWindow, hg, hr]

theorem decode_encode_v4Undefined {c : Config} {w : Win} {dir : Dir} {off : Nat} {val : Word}
    (h : wellFormed c (.v4Undefined w dir off val) = true) :
    decode c (encode c (.v4Undefined w dir off val)) = .ok (.v4Undefined w dir off val) := by
  simp only [wellFormed, Bool.and_eq_true, Bool.or_eq_true, beq_iff_eq, decide_eq_true_eq,
    Option.isNone_iff_eq_none] at h
  obtain ⟨⟨⟨⟨⟨hg, halign⟩, hlt⟩, ho⟩, hr⟩, hd⟩ := h
  rw [encode, decode_encodeAccess_window c w dir val hd halign hlt ho]
  simp [decodeWindow, hg, hr]

theorem decode_encode_ctlUndefined {c : Config} {dir : Dir} {off : Nat} {val : Word}
    (h : wellFormed c (.ctlUndefined dir off val) = true) :
    decode c (encode c (.ctlUndefined dir off val)) = .ok (.ctlUndefined dir off val) := by
  simp only [wellFormed, Bool.and_eq_true, Bool.or_eq_true, beq_iff_eq, bne_iff_ne, decide_eq_true_eq] at h
  obtain ⟨⟨⟨⟨halign, ho⟩, hctrl⟩, hstatus⟩, hd⟩ := h
  rw [encode, decode_encodeAccess_control c dir val hd halign ho]
  unfold decodeControl
  rw [if_neg hctrl, if_neg hstatus]

theorem decode_encode_cpuCtrl {c : Config} (hc : c.OffsetsWf) :
    (∀ val, decode c (encode c (.ctlWrCpuCtrl val)) = .ok (.ctlWrCpuCtrl val))
    ∧ decode c (encode c .ctlRdCpuCtrl) = .ok .ctlRdCpuCtrl := by
  obtain ⟨-, -, -, halign, -, hlt, -⟩ := hc
  have hrow (dir : Dir) (val : Word) (hd : dir = .write ∨ val = 0) :=
    decode_encodeAccess_control c dir val hd halign (by omega)
  exact ⟨fun val => (hrow .write val (.inl rfl)).trans (by simp [decodeControl]),
    (hrow .read 0 (.inr rfl)).trans (by simp [decodeControl])⟩

theorem decode_encode_cpuStatus {c : Config} (hc : c.OffsetsWf) :
    (∀ val, decode c (encode c (.ctlWrCpuStatus val)) = .ok (.ctlWrCpuStatus val))
    ∧ decode c (encode c .ctlRdCpuStatus) = .ok .ctlRdCpuStatus := by
  obtain ⟨-, -, hne, -, halign, -, hlt, -⟩ := hc
  have hrow (dir : Dir) (val : Word) (hd : dir = .write ∨ val = 0) :=
    decode_encodeAccess_control c dir val hd halign (by omega)
  exact ⟨fun val => (hrow .write val (.inl rfl)).trans (by simp [decodeControl, hne.symm]),
    (hrow .read 0 (.inr rfl)).trans (by simp [decodeControl, hne.symm])⟩

/-! The outbound payloads are told apart by their types and give their operands back (30_encoding.md R82 to R85). -/

theorem decodeMgmtOut_helloPayload {c : Config} (h : c.PayloadWf) :
    decodeMgmtOut c (helloPayload c) = .ok .mgmtOutHello := by
  simp [decodeMgmtOut, mgmtType_helloPayload h]

theorem decodeMgmtOut_powerStateAckPayload {c : Config} (h : c.PayloadWf) :
    decodeMgmtOut c (powerStateAckPayload c) = .ok .mgmtOutPowerStateAck := by
  simp [decodeMgmtOut, mgmtType_powerStateAckPayload h]

theorem decodeMgmtOut_rollcallPayload {c : Config} (h : c.PayloadWf) {mask : Word} {block : BitVec 6} {ended : Bool}
    (hemitted : rollcallEmitted mask block ended = true) :
    decodeMgmtOut c (rollcallPayload c mask block ended) = .ok (.mgmtOutRollcall mask block ended) := by
  simp [decodeMgmtOut, mgmtType_rollcallPayload _ _ _ h, rollcallMask_rollcallPayload _ _ _ h,
    rollcallBlock_rollcallPayload _ _ _ h, rollcallEnded_rollcallPayload _ _ _ h, hemitted]

/-! A first operand of one byte or of one word, and what follows it. -/

theorem byte_first_mod {b : Nat} (h : b < 2) (n : Nat) : (b + 2 ^ 8 * n) % 256 = b := by omega

theorem byte_first_div {b : Nat} (h : b < 2) (n : Nat) : (b + 2 ^ 8 * n) / 256 = n := by omega

theorem word_first_ofNat (x : Word) (n : Nat) : BitVec.ofNat 32 (x.toNat + 2 ^ 32 * n) = x := by
  apply BitVec.eq_of_toNat_eq
  have := x.isLt
  rw [BitVec.toNat_ofNat]
  omega

theorem word_first_div (x : Word) (n : Nat) : (x.toNat + 2 ^ 32 * n) / 2 ^ 32 = n := by
  have := x.isLt
  omega

section
variable (c : Config)

theorem decode_encode_mbSend (q : QId) (m : Message) : decode c (encode c (.mbSend q m)) = .ok (.mbSend q m) := by
  have hq := queueByte_lt q
  have hm := messageNat_lt m
  have hlt : queueByte q + 2 ^ 8 * messageNat m < 256 ^ opBytes .mbSend := by simp only [opBytes, msgBytes]; omega
  rw [encode, decode_encodeNamed c hlt]
  simp only [decodeNamed, byte_first_mod hq, byte_first_div hq, queueOfByte_queueByte, messageOfNat_messageNat,
    Except.map]

theorem decode_encode_queueOperand (q : QId) :
    decode c (encode c (.mbRecv q)) = .ok (.mbRecv q) ∧ decode c (encode c (.status q)) = .ok (.status q) := by
  cases q <;> exact ⟨rfl, rfl⟩

theorem decode_encode_mbSetDirEn (q : QId) (b : Bool) :
    decode c (encode c (.mbSetDirEn q b)) = .ok (.mbSetDirEn q b) := by
  have hq := queueByte_lt q
  have hb := b.toNat_lt
  have hlt : queueByte q + 2 ^ 8 * b.toNat < 256 ^ opBytes .mbSetDirEn := by simp only [opBytes]; omega
  rw [encode, decode_encodeNamed c hlt]
  simp only [decodeNamed, byte_first_mod hq, byte_first_div hq, queueOfByte_queueByte, boolOfByte_toNat,
    Except.bind, Except.map]

theorem decode_encode_mask (w : Win) (bits : Word) :
    decode c (encode c (.mbSetIntMask w bits)) = .ok (.mbSetIntMask w bits)
    ∧ decode c (encode c (.mbClrIntMask w bits)) = .ok (.mbClrIntMask w bits) := by
  have hw := winByte_lt w
  have hbits := bits.isLt
  have hlt : winByte w + 2 ^ 8 * bits.toNat < 256 ^ 5 := by omega
  constructor
  all_goals
    rw [encode, decode_encodeNamed c hlt]
    simp only [decodeNamed, byte_first_mod hw, byte_first_div hw, winOfByte_winByte, BitVec.ofNat_toNat,
      BitVec.setWidth_eq, Except.map]

theorem decode_encodeNamed_message {n : OpName} (hn : opBytes n = msgBytes) (m : Message) :
    decode c (encodeNamed n (messageNat m)) = decodeNamed c n (messageNat m) :=
  decode_encodeNamed c (hn ▸ messageNat_lt m)

theorem decode_encode_register {id : Word} {handler : Nat} (h : handler < 2 ^ 32) :
    decode c (encode c (.registerControlEndpoint id handler)) = .ok (.registerControlEndpoint id handler)
    ∧ decode c (encode c (.registerUserEndpoint id handler)) = .ok (.registerUserEndpoint id handler) := by
  have hid := id.isLt
  have hlt : id.toNat + 2 ^ 32 * handler < 256 ^ 8 := by omega
  constructor <;> rw [encode, decode_encodeNamed c hlt, decodeNamed, word_first_ofNat, word_first_div]

theorem decode_encode_consumerSend (id : Word) (p : Payload) :
    decode c (encode c (.sendControlMessage id p)) = .ok (.sendControlMessage id p)
    ∧ decode c (encode c (.sendUserMessage id p)) = .ok (.sendUserMessage id p) := by
  have hid := id.isLt
  have hp := p.isLt
  have hlt : id.toNat + 2 ^ 32 * p.toNat < 256 ^ 12 := by omega
  constructor <;> rw [encode, decode_encodeNamed c hlt, decodeNamed, word_first_ofNat, word_first_div,
    BitVec.ofNat_toNat, BitVec.setWidth_eq]

end

/-- The round trip over every row: a register row through its map, every other row through its format. -/
theorem decode_encode {c : Config} {i : Instr} (hc : c.Wf) (h : wellFormed c i = true) :
    decode c (encode c i) = .ok i := by
  obtain ⟨hoffsets, -, hpayload, -⟩ := hc
  cases i with
  | v2WrMaskSet | v2WrMaskClr | v2WrIopCtrl | v2WrIopSend0 | v2WrIopSend1 | v2WrIopRecv0 | v2WrIopRecv1
  | v2WrApCtrl | v2WrApSend0 | v2WrApSend1 | v2WrApRecv0 | v2WrApRecv1 =>
    exact decode_encodeWrite_v2 hoffsets (by simpa [wellFormed] using h) rfl rfl
  | v2RdMaskSet | v2RdMaskClr | v2RdIopCtrl | v2RdIopSend0 | v2RdIopSend1 | v2RdIopRecv0 | v2RdIopRecv1
  | v2RdApCtrl | v2RdApSend0 | v2RdApSend1 | v2RdApRecv0 | v2RdApRecv1 =>
    exact decode_encodeRead_v2 hoffsets (by simpa [wellFormed] using h) rfl rfl
  | v4WrMaskSet =>
    exact decode_encodeWrite_v4 hoffsets (by simpa [wellFormed] using h) (r := .maskSet) (by simp [v4Map]) rfl
  | v4RdMaskSet =>
    exact decode_encodeRead_v4 hoffsets (by simpa [wellFormed] using h) (r := .maskSet) (by simp [v4Map]) rfl
  | v4WrMaskClr =>
    exact decode_encodeWrite_v4 hoffsets (by simpa [wellFormed] using h) (r := .maskClr) (by simp [v4Map]) rfl
  | v4RdMaskClr =>
    exact decode_encodeRead_v4 hoffsets (by simpa [wellFormed] using h) (r := .maskClr) (by simp [v4Map]) rfl
  | v4WrIopCtrl =>
    exact decode_encodeWrite_v4 hoffsets (by simpa [wellFormed] using h) (r := .ctrl .iop) (by simp [v4Map]) rfl
  | v4RdIopCtrl =>
    exact decode_encodeRead_v4 hoffsets (by simpa [wellFormed] using h) (r := .ctrl .iop) (by simp [v4Map]) rfl
  | v4WrApCtrl =>
    exact decode_encodeWrite_v4 hoffsets (by simpa [wellFormed] using h) (r := .ctrl .ap) (by simp [v4Map]) rfl
  | v4RdApCtrl =>
    exact decode_encodeRead_v4 hoffsets (by simpa [wellFormed] using h) (r := .ctrl .ap) (by simp [v4Map]) rfl
  | v4WrIopSend0 | v4WrIopSend1 | v4WrIopSend2 | v4WrIopSend3 | v4WrIopRecv0 | v4WrIopRecv1 | v4WrIopRecv2
  | v4WrIopRecv3 | v4WrApSend0 | v4WrApSend1 | v4WrApSend2 | v4WrApSend3 | v4WrApRecv0 | v4WrApRecv1
  | v4WrApRecv2 | v4WrApRecv3 =>
    exact decode_encodeWrite_v4 hoffsets (by simpa [wellFormed] using h) (mem_v4Map_of_v4Slots rfl) rfl
  | v4RdIopSend0 | v4RdIopSend1 | v4RdIopSend2 | v4RdIopSend3 | v4RdIopRecv0 | v4RdIopRecv1 | v4RdIopRecv2
  | v4RdIopRecv3 | v4RdApSend0 | v4RdApSend1 | v4RdApSend2 | v4RdApSend3 | v4RdApRecv0 | v4RdApRecv1
  | v4RdApRecv2 | v4RdApRecv3 =>
    exact decode_encodeRead_v4 hoffsets (by simpa [wellFormed] using h) (mem_v4Map_of_v4Slots rfl) rfl
  | v2Undefined => exact decode_encode_v2Undefined h
  | v4Undefined => exact decode_encode_v4Undefined h
  | regBadSize => exact decode_encode_regBadSize h
  | ctlWrCpuCtrl val => exact (decode_encode_cpuCtrl hoffsets).1 val
  | ctlRdCpuCtrl => exact (decode_encode_cpuCtrl hoffsets).2
  | ctlRdCpuStatus => exact (decode_encode_cpuStatus hoffsets).2
  | ctlWrCpuStatus val => exact (decode_encode_cpuStatus hoffsets).1 val
  | ctlUndefined => exact decode_encode_ctlUndefined h
  | mgmtInReserved0 | mgmtInHello | mgmtInHelloAck | mgmtInPing | mgmtInPingAck | mgmtInEndpointStart
  | mgmtInSetIopPowerState | mgmtInPowerStateAck | mgmtInRollcall | mgmtInReserved9 | mgmtInReserved10
  | mgmtInSetApPowerState | mgmtInReserved12 | mgmtInReserved13 | mgmtInReserved14 | mgmtInReserved15 =>
    simp only [wellFormed, beq_iff_eq] at h
    rw [encode, decode_encodeMgmtIn, decodeMgmtIn.eq_def, h]
    rfl
  | mgmtOutHello => exact (decode_encodeMgmtOut c _).trans (decodeMgmtOut_helloPayload hpayload)
  | mgmtOutPingAck p =>
    simp only [wellFormed, beq_iff_eq] at h
    rw [encode, decode_encodeMgmtOut, decodeMgmtOut.eq_def, h]
    rfl
  | mgmtOutRollcall => exact (decode_encodeMgmtOut c _).trans (decodeMgmtOut_rollcallPayload hpayload h)
  | mgmtOutPowerStateAck => exact (decode_encodeMgmtOut c _).trans (decodeMgmtOut_powerStateAckPayload hpayload)
  | mbSend q m => exact decode_encode_mbSend c q m
  | mbRecv q => exact (decode_encode_queueOperand c q).1
  | mbSetIntMask w bits => exact (decode_encode_mask c w bits).1
  | mbClrIntMask w bits => exact (decode_encode_mask c w bits).2
  | mbSetDirEn q b => exact decode_encode_mbSetDirEn c q b
  | status q => exact (decode_encode_queueOperand c q).2
  | sendToAp m | sendToIop m =>
    rw [encode, decode_encodeNamed_message c rfl, decodeNamed, messageOfNat_messageNat]
  | registerControlEndpoint =>
    simp only [wellFormed, decide_eq_true_eq] at h
    exact (decode_encode_register c h).1
  | registerUserEndpoint =>
    simp only [wellFormed, decide_eq_true_eq] at h
    exact (decode_encode_register c h).2
  | sendControlMessage id p => exact (decode_encode_consumerSend c id p).1
  | sendUserMessage id p => exact (decode_encode_consumerSend c id p).2
  | mgmtDispatch p =>
    have hlt : p.toNat < 256 ^ opBytes .mgmtDispatch := p.isLt
    rw [encode, decode_encodeNamed c hlt, decodeNamed, BitVec.ofNat_toNat, BitVec.setWidth_eq]
  | routeRegistered m | routeUnregistered m =>
    rw [encode, decode_encodeNamed_message c rfl, decodeNamed, messageOfNat_messageNat]
    simp_all [wellFormed]
  | receiveFromAp | receiveFromIop | startOrWakeup | buildRollcall | bhIop | bhAp | reset => rfl

/-- Settles O1: by the case split over the rows in `decode_encode`. -/
theorem decodeInvertsEncode : Obligations.DecodeInvertsEncode := fun _ _ => decode_encode

end Sys2Proof
end

section
/-! PROOFS. Bare words of the opcode table (30_encoding.md R74, R75, R81, R91): a word that is the encoding of a
row decodes to it. -/

namespace Sys2Proof

open Sys2Proof.Machine

/-- The default channel is admitted in both generations (92_eei_decisions.md). -/
theorem tableConfig_wf (nbits w : Nat) : (tableConfig Config.default nbits w).Wf := by
  have hgen (g : Gen) : { Config.default with gen := g }.Wf := by cases g <;> decide
  unfold tableConfig
  split
  · exact hgen _
  · exact hgen .v2

theorem decodeTableWord_of_encode {nbits w : Nat} {i : Instr}
    (hr : tableRequest nbits w = some (encode (tableConfig Config.default nbits w) i))
    (hi : wellFormed (tableConfig Config.default nbits w) i = true) : decodeTableWord nbits w = some i := by
  rw [decodeTableWord, hr]
  simp only [decode_encode (tableConfig_wf nbits w) hi]

/-- Settles O4: each word is the encoding of its row in the configuration that the word needs. -/
theorem tableWordsDecode : Obligations.TableWordsDecode := by
  unfold Obligations.TableWordsDecode
  and_intros <;> exact decodeTableWord_of_encode rfl (by decide)

end Sys2Proof
end

section
/-! PROOFS. The interrupt masks and the lines behind them (10_state.md R19; 40_mailbox_ops.md R104, R105): a
mask operation moves `permit` of its own window, and no line depends on anything else that it changes. -/

namespace Sys2Proof.Machine

/-- Settles O19: each of the three rows is `setIntMask`. -/
theorem maskSetOrsIntoTheMask : Obligations.MaskSetOrsIntoTheMask := by
  intro w val s i hi
  simp only [List.mem_cons, List.not_mem_nil, or_false] at hi
  rcases hi with rfl | rfl | rfl <;> rfl

/-- Settles O20: each of the three rows is `clrIntMask`. -/
theorem maskClrClearsInTheMask : Obligations.MaskClrClearsInTheMask := by
  intro w val s i hi
  simp only [List.mem_cons, List.not_mem_nil, or_false] at hi
  rcases hi with rfl | rfl | rfl <;> rfl

theorem isEmpty_eq (x : QueueState) : isEmpty x = decide (x.count = 0) := beq_eq_decide ..

/-- The condition that a line shows while it is permitted (10_state.md R19). -/
def lineCondition (s : State) (l : Line) : Bool :=
  match l with
  | .nonempty q => decide (0 < (s.queue q).count)
  | .empty q => decide ((s.queue q).count = 0)

/-- The term that makes a line true whatever its mask bit is (10_state.md R19, 60_exceptions.md R246). -/
def lineForced (s : State) (l : Line) : Bool :=
  match l with
  | .nonempty q => (s.queue q).underflow
  | .empty q => s.cfg.underflowAssertsEmptyLine && (s.queue q).underflow

theorem irq_eq (s : State) (w : Win) (l : Line) :
    irq s w l = ((lineCondition s l && permit s w l) || lineForced s l) := by
  cases l with
  | nonempty q => simp only [irq, lineCondition, lineForced, isEmpty_eq, Nat.pos_iff_ne_zero, decide_not]
  | empty q => simp only [irq, lineCondition, lineForced, isEmpty_eq]

/-- An operation on a window moves lines by their permits only. -/
theorem WindowFrame.line_eq {w : Win} {s t : State} (h : WindowFrame w s t) (w' : Win) (l : Line) :
    irq t w' l = ((lineCondition s l && permit t w' l) || lineForced s l) := by
  rw [irq_eq]
  cases l <;> simp only [lineCondition, lineForced, h.queue, h.cfg]

theorem WindowFrame.line_of_permit_eq {w w' : Win} {s t : State} {l : Line} (h : WindowFrame w s t)
    (hp : permit t w' l = permit s w' l) : irq t w' l = irq s w' l := by
  rw [h.line_eq, hp, irq_eq]

theorem WindowFrame.line_other {w w' : Win} {s t : State} (h : WindowFrame w s t) (hw : w' ≠ w) (l : Line) :
    irq t w' l = irq s w' l :=
  h.line_of_permit_eq (by rw [permit, permit, h.other w' hw, h.cfg])

theorem permit_setIntMask (w : Win) (bits : Word) (s : State) (l : Line) :
    permit (setIntMask w bits s) w l = (permit s w l && !bits.getLsbD (irqBit s.cfg l)) := by
  simp [permit, setIntMask]

theorem permit_clrIntMask (w : Win) (bits : Word) (s : State) (l : Line) :
    permit (clrIntMask w bits s) w l = (permit s w l || bits.getLsbD (irqBit s.cfg l)) := by
  by_cases hb : irqBit s.cfg l < 32
  · simp [permit, clrIntMask, hb]
  · simp [permit, clrIntMask, BitVec.getLsbD_of_ge _ _ (Nat.not_lt.mp hb)]

/-- Settles O21: setting a mask bit takes the permit away and leaves the forcing term, clearing it gives the
permit, and an unwritten bit keeps it. -/
theorem maskedLinesFall : Obligations.MaskedLinesFall := by
  refine ⟨fun w bits s t l hexec => ?_, fun w bits s t l hexec => ?_⟩
  · cases hexec
    have hframe : WindowFrame w s (setIntMask w bits s) := setIntMask_frame w bits s
    refine ⟨fun hbit => ?_, fun hbit => ?_, fun w' hw => hframe.line_other hw l⟩
    · have hforced : irq (setIntMask w bits s) w l = lineForced s l := by
        simp [hframe.line_eq, permit_setIntMask, hbit]
      cases l <;> exact hforced
    · exact hframe.line_of_permit_eq (by simp [permit_setIntMask, hbit])
  · cases hexec
    have hframe : WindowFrame w s (clrIntMask w bits s) := clrIntMask_frame w bits s
    refine ⟨fun hbit => ?_, fun hbit => ?_, fun w' hw => hframe.line_other hw l⟩
    · have hshown : irq (clrIntMask w bits s) w l = (lineCondition s l || lineForced s l) := by
        simp [hframe.line_eq, permit_clrIntMask, hbit]
      cases l <;> exact hshown
    · exact hframe.line_of_permit_eq (by simp [permit_clrIntMask, hbit])

end Sys2Proof.Machine
end

section
/-! PROOFS. Sends and receives as operations (40_mailbox_ops.md R100, R102, R116; 42_a7iop_core.md R170 to
R173), one by one and in sequences on one queue. -/

namespace Sys2Proof.Machine

open Sys2Proof.Claims

/-! ### One operation -/

/-- Settles O34: each of the three rows is `mbSend`, which its reference description is. -/
theorem sendPushesOrDrops : Obligations.SendPushesOrDrops := by
  intro q m s
  have hsend (p : QId) :
      (Host.Outcome.next (mbSend p m s) : Host.Outcome State Fault Refusal) = .next (sent p m s) :=
    congrArg _ (mbSend_eq_sent p m s)
  exact ⟨hsend q, hsend .ap, hsend .iop⟩

/-- What the AP sent waits in queue IOP, and what the IOP sent in queue AP (42_a7iop_core.md R171, R173). -/
theorem exec_receive {q : QId} {i : Instr}
    (hi : i ∈ [Instr.mbRecv q, match q with | .iop => .receiveFromAp | .ap => .receiveFromIop]) (s : State) :
    exec i s = .next (giveMessage (mbRecv q s)) := by
  cases q with
  | iop | ap =>
    simp only [List.mem_cons, List.not_mem_nil, or_false] at hi
    rcases hi with rfl | rfl <;> rfl

/-- Settles O35: every row is `giveMessage` of `mbRecv`, in the four branches of R102. -/
theorem receiveReturnsTheOldestMessage : Obligations.ReceiveReturnsTheOldestMessage := by
  intro q s i hi
  rw [exec_receive hi]
  refine ⟨fun hen => ?_, fun hen hlatch => ?_, fun hen hlatch hcount => ?_,
    fun m rest hen hlatch hcount hinbox => ?_⟩
  · rw [mbRecv_of_disabled hen]; rfl
  · rw [mbRecv_of_latched hen hlatch]; rfl
  · rw [mbRecv_of_empty hen hlatch hcount, ← setQueue_trace s q { s.queue q with underflow := true }]; rfl
  · rw [mbRecv_of_message hen hlatch hcount hinbox]; rfl

/-! ### A sequence of sends -/

/-- Sends to an enabled queue are appended whole and in order, whatever its depth (40_mailbox_ops.md R100). -/
theorem execAll_mbSend {q : QId} (ms : List Message) {s : State} (hen : (s.queue q).en = true) :
    ∃ t, execAll (ms.map (Instr.mbSend q)) s = some t ∧ t.cfg = s.cfg
      ∧ (t.queue q).inbox = (s.queue q).inbox ++ ms ∧ (t.queue q).count = (s.queue q).count + ms.length := by
  induction ms generalizing s with
  | nil => exact ⟨s, rfl, rfl, by simp, rfl⟩
  | cons m ms ih =>
    have hframe : QueueFrame q s (mbSend q m s) := mbSend_frame q m s
    obtain ⟨t, hrun, hcfg, hinbox, hcount⟩ := ih (hframe.en.trans hen)
    refine ⟨t, hrun, hcfg.trans hframe.cfg, ?_, ?_⟩
    · simp [hinbox, mbSend_of_enabled m hen]
    · simp [hcount, mbSend_of_enabled m hen, Nat.add_assoc, Nat.add_comm 1]

/-- Settles O37: the count after the sends is that of all messages, and the two flags compare it with
`MAX_DEPTH`. -/
theorem pushesBeyondTheDepthAreKept : Obligations.PushesBeyondTheDepthAreKept := by
  intro q ms s hbits hen hcons
  obtain ⟨t, hrun, hcfg, hinbox, hcount⟩ := execAll_mbSend ms hen
  rw [← hcfg] at hbits
  rw [hcons] at hcount
  obtain ⟨-, hfull, -, hoverflow, -⟩ := statusWord_flags hbits (t.queue q)
  refine ⟨t, hrun, hinbox, hcount, ?_, ?_⟩
  · rw [hfull, isFull, hcount]
  · rw [hoverflow, isOverflow, hcount]

/-! ### A sequence of sends and receives -/

/-- The depth stamp shows only in the depth field (40_mailbox_ops.md R116). -/
theorem withoutDepth_stampDepth {c : Config} (h : c.flagsDepthWidth ≤ 32) (depth : Nat) (m : Message) :
    withoutDepth c (stampDepth c depth m) = withoutDepth c m := by
  have hmask : BitVec.ofNat 32 (2 ^ c.flagsDepthWidth - 1) = depthMask c := by simp [depthMask, flagsDepthLsb]
  have hflags : (stampDepth c depth m).flags &&& ~~~depthMask c = m.flags &&& ~~~depthMask c := by
    apply BitVec.eq_of_getLsbD_eq
    intro b hb
    by_cases hfield : b < c.flagsDepthWidth <;>
      simp [stampDepth_flags_getLsbD h, depthMask_getLsbD h, hfield]
  rw [withoutDepth, withoutDepth, hmask, hflags]
  rfl

theorem machineObservations_send (q : QId) (m : Message) (ops : List QueueOp) (s : State) :
    machineObservations q (.send m :: ops) s = machineObservations q ops (mbSend q m s) := rfl

theorem machineObservations_recv (q : QId) (ops : List QueueOp) (s : State) :
    machineObservations q (.recv :: ops) s
      = (mbRecv q s).1 :: machineObservations q ops (giveMessage (mbRecv q s)) := rfl

/-- Behind the latch every receive observes `empty` for ever (10_state.md R16, 40_mailbox_ops.md R102). -/
theorem machineObservations_of_latched {q : QId} (ops : List QueueOp) {s : State}
    (hen : (s.queue q).en = true) (hlatch : (s.queue q).underflow = true) :
    machineObservations q ops s = (ops.filter QueueOp.isRecv).map (fun _ => none) := by
  induction ops generalizing s with
  | nil => rfl
  | cons op ops ih =>
    cases op with
    | send m =>
      obtain ⟨hkeeps, -, -⟩ := mbSend_queue q m s
      exact ih ((mbSend_frame q m s).en.trans hen) (hkeeps.trans hlatch)
    | recv =>
      rw [machineObservations_recv, mbRecv_of_latched hen hlatch, giveMessage,
        ih (by simpa using hen) (by simpa using hlatch)]
      rfl

/-- Settles O36: a send appends to both queues; a receive takes the head of both, which differ by the stamp, or
finds none and latches the machine's. -/
theorem queueRefinesTheIdealFifo : Obligations.QueueRefinesTheIdealFifo := by
  intro q ops
  induction ops with
  | nil => exact fun _ _ _ _ _ => rfl
  | cons op ops ih =>
    intro s hen hlatch hcons hwidth
    cases op with
    | send m =>
      have hstep := ih (mbSend q m s) (by simp [mbSend_of_enabled m hen, hen])
        (by simp [mbSend_of_enabled m hen, hlatch]) (by simp [QueueConsistent, mbSend_of_enabled m hen, hcons])
        (by rwa [(mbSend_frame q m s).cfg])
      simpa [machineObservations_send, idealObservations, mbSend_of_enabled m hen] using hstep
    | recv =>
      rw [machineObservations_recv]
      cases hinbox : (s.queue q).inbox with
      | nil =>
        have hcount : (s.queue q).count = 0 := by rw [hcons, hinbox]; rfl
        rw [mbRecv_of_empty hen hlatch hcount, giveMessage,
          machineObservations_of_latched ops (by simpa using hen) (by simp), idealObservations]
      | cons m rest =>
        have hcount : (s.queue q).count = rest.length + 1 := by rw [hcons, hinbox]; rfl
        have hrecv := mbRecv_of_message hen hlatch (by omega) hinbox
        have hstep := ih (giveMessage (mbRecv q s)) (by simp [hrecv, giveMessage, hen])
          (by simp [hrecv, giveMessage, hlatch]) (by simp [hrecv, giveMessage, hcount])
          (by simpa [hrecv, giveMessage] using hwidth)
        simp only [hrecv, giveMessage, give_cfg, setQueue_cfg, give_queue, queue_setQueue_self] at hstep ⊢
        rw [idealObservations, List.map_cons, List.map_cons, hstep, Option.map_some, Option.map_some,
          withoutDepth_stampDepth hwidth]

end Sys2Proof.Machine
end

section
/-! PROOFS. The register facade, access by access (41_register_facade.md): the registers of one kind are one shared
operation, through either window and in both generations. -/

namespace Sys2Proof.Machine

open Sys2Proof.Claims

/-! ### The words of a message (30_encoding.md R71) -/

/-- The message that a slot spells: in V2 its endpoint and flags are 0 (41_register_facade.md R142). -/
def slotMessage (g : Gen) (x : Slot) : Message :=
  match g with
  | .v2 => ⟨x.w1 ++ x.w0, 0, 0⟩
  | .v4 => ⟨x.w1 ++ x.w0, x.w2, x.w3⟩

/-- The words of a message that a slot holds: in V2 those of the payload (41_register_facade.md R146). -/
def messageSlot (g : Gen) (m : Message) : Slot :=
  match g with
  | .v2 => ⟨m.msg.extractLsb' 0 32, m.msg.extractLsb' 32 32, 0, 0⟩
  | .v4 => ⟨m.msg.extractLsb' 0 32, m.msg.extractLsb' 32 32, m.endpoint, m.flags⟩

theorem slotImage_eq_messageImage (g : Gen) (x : Slot) : slotImage g x = messageImage (slotMessage g x) := by
  cases g with
  | v2 =>
    have hzero : (0 : Word) ++ (0 : Word) = 0#64 := by decide
    simp only [slotImage, messageImage, slotMessage, hzero]
    exact (BitVec.setWidth_eq_append (x := x.w1 ++ x.w0) (w := 128) (by decide)).trans (BitVec.cast_eq ..)
  | v4 =>
    simp only [slotImage, messageImage, slotMessage]
    exact BitVec.append_assoc (x₁ := x.w3 ++ x.w2)

theorem imageMessage_slotImage (g : Gen) (x : Slot) : imageMessage (slotImage g x) = slotMessage g x := by
  rw [slotImage_eq_messageImage, imageMessage_messageImage]

theorem imageSlot_eq_messageSlot (g : Gen) (b : BitVec 128) : imageSlot g b = messageSlot g (imageMessage b) := by
  have hlow : (b.extractLsb' 0 64).extractLsb' 0 32 = b.extractLsb' 0 32 :=
    BitVec.extractLsb'_extractLsb'_of_le (by decide)
  have hhigh : (b.extractLsb' 0 64).extractLsb' 32 32 = b.extractLsb' 32 32 :=
    BitVec.extractLsb'_extractLsb'_of_le (by decide)
  cases g <;> simp only [imageSlot, messageSlot, imageMessage, hlow, hhigh]

theorem imageSlot_messageImage (g : Gen) (m : Message) : imageSlot g (messageImage m) = messageSlot g m := by
  rw [imageSlot_eq_messageSlot, imageMessage_messageImage]

@[simp] theorem cacheOf_none (g : Gen) : cacheOf g none = ⟨0, 0, 0, 0⟩ := rfl

@[simp] theorem cacheOf_some (g : Gen) (m : Message) : cacheOf g (some m) = messageSlot g m :=
  imageSlot_messageImage g m

/-- The depth stamp is lost with the flags in V2 (41_register_facade.md R160). -/
theorem messageSlot_stampDepth_v2 (c : Config) (depth : Nat) (x : Slot) :
    messageSlot .v2 (stampDepth c depth (slotMessage .v2 x)) = ⟨x.w0, x.w1, 0, 0⟩ := by
  simp only [messageSlot, stampDepth, slotMessage, BitVec.extractLsb'_append_eq_right,
    BitVec.extractLsb'_append_eq_left]

/-- The depth stamp shows in word 3 only in V4 (41_register_facade.md R160). -/
theorem messageSlot_stampDepth_v4 (c : Config) (depth : Nat) (x : Slot) :
    messageSlot .v4 (stampDepth c depth (slotMessage .v4 x))
      = { x with w3 := (stampDepth c depth (slotMessage .v4 x)).flags } := by
  simp only [messageSlot, stampDepth, slotMessage, BitVec.extractLsb'_append_eq_right,
    BitVec.extractLsb'_append_eq_left]

/-! ### Reads and writes of one effect -/

theorem exec_freeRead {w : Win} {i : Instr} (hi : i ∈ freeReads w) (s : State) :
    exec i s = .next (readFree s) := by
  revert i
  simp only [freeReads, List.forall_mem_cons, List.not_mem_nil, IsEmpty.forall_iff, implies_true, and_true]
  and_intros <;> rfl

/-- Settles O22: each of the sixteen rows is `readFree`. -/
theorem unconstrainedReadsChangeNothing : Obligations.UnconstrainedReadsChangeNothing :=
  fun _ s _ hi => exec_freeRead hi s

theorem exec_controlWrite {w : Win} {q : QId} {val : Word} {i : Instr} (hi : i ∈ controlWrites w q val)
    (s : State) : exec i s = .next (writeControl q val s) := by
  cases q with
  | iop | ap =>
    simp only [controlWrites, List.mem_cons, List.not_mem_nil, or_false] at hi
    rcases hi with rfl | rfl <;> rfl

/-- Settles O24: a control write is `setDirEn` of bit 0 of its word. -/
theorem controlWriteSetsOnlyTheEnable : Obligations.ControlWriteSetsOnlyTheEnable :=
  ⟨fun _ _ _ s _ hi => exec_controlWrite hi s, fun _ _ _ => rfl⟩

/-- Settles O32: each of the twelve rows refuses. -/
theorem receiveWordWritesAreRefused : Obligations.ReceiveWordWritesAreRefused := by
  intro w val s
  simp only [receiveWordWrites, List.forall_mem_cons, List.not_mem_nil, IsEmpty.forall_iff, implies_true,
    and_true]
  and_intros <;> rfl

/-- Settles O33: none of these rows has a branch that answers a state. -/
theorem undefinedAccessesAreRefused : Obligations.UndefinedAccessesAreRefused :=
  ⟨fun _ _ _ _ _ => ⟨rfl, rfl⟩, fun _ _ _ _ _ _ => rfl, fun _ _ => rfl, fun _ _ _ _ => rfl⟩

/-! ### The send window (41_register_facade.md R140, R142) -/

@[simp] theorem stageWord_cfg (w : Win) (q : QId) (k : Nat) (val : Word) (s : State) :
    (stageWord w q k val s).cfg = s.cfg := setWindow_cfg ..

@[simp] theorem stageWord_queue (w : Win) (q : QId) (k : Nat) (val : Word) (s : State) (q' : QId) :
    (stageWord w q k val s).queue q' = s.queue q' := setWindow_queue ..

@[simp] theorem stage_stageWord (w : Win) (q : QId) (k : Nat) (val : Word) (s : State) :
    ((stageWord w q k val s).window w).stage q = setSlotWord ((s.window w).stage q) k val := by
  simp [stageWord]

/-- Settles O25: each row is `stageWord` of its word. -/
theorem stagedWordIsOnlyBuffered : Obligations.StagedWordIsOnlyBuffered := by
  intro w val s
  simp only [List.forall_mem_cons, List.not_mem_nil, IsEmpty.forall_iff, implies_true, and_true]
  and_intros <;> rfl

theorem exec_commitWrite (g : Gen) (w : Win) (q : QId) (val : Word) (s : State) :
    exec (commitWrite g w q val) s = .next (commitSend g w q val s) := by
  cases g <;> cases q <;> rfl

/-- A commit stages its word and sends the message that the staging register then spells. -/
theorem commitSend_eq (g : Gen) (w : Win) (q : QId) (val : Word) (s : State) :
    commitSend g w q val s
      = mbSend q (slotMessage g (setSlotWord ((s.window w).stage q) (lastWord g) val))
          (stageWord w q (lastWord g) val s) := by
  rw [commitSend, imageMessage_slotImage, stage_stageWord]

/-- Settles O26: a commit sends what its staging register spells, as `sent` describes a send. -/
theorem commitSendsTheStagedMessage : Obligations.CommitSendsTheStagedMessage := by
  intro g w q val s
  rw [exec_commitWrite, commitSend_eq, mbSend_eq_sent]
  cases g <;> rfl

/-- Over a disabled direction a commit changes no queue (41_register_facade.md R164). -/
theorem commitSend_queue_of_disabled {q : QId} {s : State} (g : Gen) (w : Win) (val : Word)
    (hen : (s.queue q).en = false) (q' : QId) : (commitSend g w q val s).queue q' = s.queue q' := by
  rw [commitSend_eq, mbSend_of_disabled _ (by simpa using hen), diag_queue, stageWord_queue]

theorem commitSend_count_of_enabled {q : QId} {s : State} (g : Gen) (w : Win) (val : Word)
    (hen : (s.queue q).en = true) : ((commitSend g w q val s).queue q).count = (s.queue q).count + 1 := by
  rw [commitSend_eq, mbSend_of_enabled _ (by simpa using hen), queue_setQueue_self, stageWord_queue]

/-! ### The receive window (41_register_facade.md R146, R148) -/

theorem exec_popRead (g : Gen) (w : Win) (q : QId) (s : State) :
    exec (popRead g w q) s = .next (popReceive g w q s) := by
  cases g <;> cases q <;> rfl

theorem popReceive_of_none {q : QId} {s u : State} (g : Gen) (w : Win) (h : mbRecv q s = (none, u)) :
    popReceive g w q s
      = { u.setWindow w ((u.window w).setCache q ⟨0, 0, 0, 0⟩) with result := .word 0 } := by
  rw [popReceive, h, cacheOf_none]; rfl

theorem popReceive_of_some {q : QId} {s u : State} {m : Message} (g : Gen) (w : Win)
    (h : mbRecv q s = (some m, u)) :
    popReceive g w q s
      = { u.setWindow w ((u.window w).setCache q (messageSlot g m)) with
          result := .word (m.msg.extractLsb' 0 32) } := by
  rw [popReceive, h, cacheOf_some]
  cases g <;> rfl

/-- Settles O27: a pop is one `MB.RECV`, in the four branches of R102, and the cache is filled from what it
returns. -/
theorem popReadFillsTheCache : Obligations.PopReadFillsTheCache := by
  intro g w q s
  rw [exec_popRead]
  refine ⟨fun hen => ?_, fun hen hlatch => ?_, fun hen hlatch hcount => ?_,
    fun m rest hen hlatch hcount hinbox => ⟨_, rfl, ?_⟩⟩
  · rw [popReceive_of_none g w (mbRecv_of_disabled hen)]; rfl
  · rw [popReceive_of_none g w (mbRecv_of_latched hen hlatch)]
  · rw [popReceive_of_none g w (mbRecv_of_empty hen hlatch hcount),
      ← setQueue_trace s q { s.queue q with underflow := true }]; rfl
  · rw [popReceive_of_some g w (mbRecv_of_message hen hlatch hcount hinbox), setQueue_window]
    cases g <;> rfl

theorem exec_trailingRead {w : Win} {q : QId} {s : State} {p : Instr × Word}
    (hp : p ∈ trailingReads w q ((s.window w).cache q)) :
    exec p.1 s = .next { s with result := .word p.2 } := by
  cases q with
  | iop | ap =>
    simp only [trailingReads, List.mem_cons, List.not_mem_nil, or_false] at hp
    rcases hp with rfl | rfl | rfl | rfl <;> rfl

end Sys2Proof.Machine
end

section
/-! PROOFS. Runs of accesses: what fills a receive cache (41_register_facade.md R162), and what comes back from a
send window through a receive window (R160, R164). -/

namespace Sys2Proof.Machine

open Sys2Proof.Claims

/-! ### What fills a receive cache -/

/-- Of the operations that receive, only the pops act through a window: `h_1` and `h_5` are those of V2, `h_2` and
`h_6` those of V4. -/
theorem eq_popRead_of_receivesFrom {i : Instr} {w : Win} {q : QId} (hw : actsThrough i = some w)
    (hq : receivesFrom i q = true) : i = popRead .v2 w q ∨ i = popRead .v4 w q := by
  unfold receivesFrom at hq
  split at hq
  case h_1 | h_5 => cases hw; exact .inl rfl
  case h_2 | h_6 => cases hw; exact .inr rfl
  case h_9 => cases hq
  all_goals cases hw

theorem cache_setCache_ne (x : WindowState) {q q' : QId} (v : Slot) (h : q' ≠ q) :
    (x.setCache q v).cache q' = x.cache q' := by
  cases q <;> cases q' <;> simp_all [WindowState.setCache, WindowState.cache]

/-- An update of a window that keeps its receive cache of queue `q` keeps that of the other window too. -/
theorem setWindow_cache {s : State} {w : Win} {v : WindowState} {q : QId}
    (hv : v.cache q = (s.window w).cache q) (w' : Win) :
    ((s.setWindow w v).window w').cache q = (s.window w').cache q := by
  by_cases hne : w' = w
  · subst hne; rw [window_setWindow_self, hv]
  · rw [window_setWindow_ne s v hne]

@[simp] theorem setIntMask_cache (w : Win) (bits : Word) (s : State) (w' : Win) (q : QId) :
    ((setIntMask w bits s).window w').cache q = (s.window w').cache q := setWindow_cache (by cases q <;> rfl) w'

@[simp] theorem clrIntMask_cache (w : Win) (bits : Word) (s : State) (w' : Win) (q : QId) :
    ((clrIntMask w bits s).window w').cache q = (s.window w').cache q := setWindow_cache (by cases q <;> rfl) w'

@[simp] theorem stageWord_cache (w : Win) (p : QId) (k : Nat) (val : Word) (s : State) (w' : Win) (q : QId) :
    ((stageWord w p k val s).window w').cache q = (s.window w').cache q :=
  setWindow_cache (setStage_cache _ p q _) w'

@[simp] theorem commitSend_cache (g : Gen) (w : Win) (p : QId) (val : Word) (s : State) (w' : Win) (q : QId) :
    ((commitSend g w p val s).window w').cache q = (s.window w').cache q := by
  rw [commitSend_eq, (mbSend_frame p _ _).window, stageWord_cache]

@[simp] theorem popReceive_cache_self (g : Gen) (w : Win) (q : QId) (s : State) :
    ((popReceive g w q s).window w).cache q = cacheOf g (mbRecv q s).1 := by
  simp [popReceive, fillCache]

/-- A pop fills the cache of its own window and queue only (41_register_facade.md R146). -/
theorem popReceive_cache_ne {w w' : Win} {p q : QId} (g : Gen) (s : State) (h : ¬(w' = w ∧ q = p)) :
    ((popReceive g w p s).window w').cache q = (s.window w').cache q := by
  rw [← (mbRecv_frame p s).window w']
  by_cases hw : w' = w
  · subst hw
    have hq : q ≠ p := fun hq => h ⟨rfl, hq⟩
    simp [popReceive, fillCache, cache_setCache_ne _ _ hq]
  · rw [(popReceive_frame g w p s).other w' hw]

/-- Only the two pops of a window and queue, and RESET, change its receive cache (41_register_facade.md R162). -/
theorem Effect.cache {i : Instr} {s t : State} {w : Win} {q : QId} (he : Effect i s t) (hi : i ≠ .reset)
    (hpop : ∀ g, i ≠ popRead g w q) : (t.window w).cache q = (s.window w).cache q := by
  cases he with
  | observe r => rw [give_window]
  | free => rw [readFree_window]
  | setMask bits hw => exact setIntMask_cache ..
  | clrMask bits hw => exact clrIntMask_cache ..
  | enable p b => rw [setDirEn_window]
  | stage p k val hw hk => exact stageWord_cache ..
  | commit p val hw hg => exact commitSend_cache ..
  | @pop g w' p hw hp hg =>
    refine popReceive_cache_ne g s fun ⟨hw', hq⟩ => ?_
    subst hw' hq
    rcases eq_popRead_of_receivesFrom hw hp with h | h
    · exact hpop .v2 h
    · exact hpop .v4 h
  | send p m => rw [(mbSend_frame p m s).window]
  | receive p hp => rw [giveMessage, give_window, (mbRecv_frame p s).window]
  | control val hi' => exact congrArg (·.cache q) ((writeCpuCtrl_engine val s).window w)
  | engine hf he => rw [hf.window]
  | callback hb hr hi' => exact congrArg (·.cache q) ((runCallback_engine hr).window w)
  | apCallback hb hi' => rw [runApCallback_window]
  | registration hi' hw hr => obtain ⟨_, _, rfl⟩ := register_ok hr; rfl
  | reset hi' => exact absurd hi' hi

theorem exists_of_execAll_cons {i : Instr} {ops : List Instr} {s t : State} (h : execAll (i :: ops) s = some t) :
    ∃ u, exec i s = .next u ∧ execAll ops u = some t := by
  unfold execAll at h
  split at h
  · next u hu => exact ⟨u, hu, h⟩
  · cases h

/-- What every operation of a run keeps, the run keeps. -/
theorem execAll_induction {P : State → Prop} {ops : List Instr} {s t : State}
    (hstep : ∀ i ∈ ops, ∀ u v, exec i u = .next v → P u → P v) (hrun : execAll ops s = some t) (hs : P s) :
    P t := by
  induction ops generalizing s with
  | nil => cases hrun; exact hs
  | cons i ops ih =>
    obtain ⟨u, hexec, hrest⟩ := exists_of_execAll_cons hrun
    rw [List.forall_mem_cons] at hstep
    exact ih hstep.2 hrest (hstep.1 s u hexec hs)

/-- Settles O29: no operation of the run changes the cache, and a trailing read returns its word. -/
theorem trailingReadsRepeatTheCache : Obligations.TrailingReadsRepeatTheCache := by
  refine fun w q s => ⟨fun p hp => exec_trailingRead hp, fun ops t hops hrun p hp => ?_⟩
  have hkept : (t.window w).cache q = (s.window w).cache q := by
    refine execAll_induction (P := fun u => (u.window w).cache q = (s.window w).cache q) ?_ hrun rfl
    intro i hi u v hexec hu
    obtain ⟨hreset, hv2, hv4⟩ := hops i hi
    have hpop : ∀ g, i ≠ popRead g w q := by
      intro g
      cases g
      · exact hv2
      · exact hv4
    exact ((exec_effect hexec).cache hreset hpop).trans hu
  exact exec_trailingRead (by rwa [hkept])

/-! ### From a send window to a receive window -/

/-- A queue that would deliver at once what is sent to it. -/
structure ReadyEmpty (x : QueueState) : Prop where
  en : x.en = true
  underflow : x.underflow = false
  count : x.count = 0
  inbox : x.inbox = []

theorem mbRecv_mbSend {q : QId} {s : State} (h : ReadyEmpty (s.queue q)) (m : Message) :
    (mbRecv q (mbSend q m s)).1 = some (stampDepth s.cfg 1 m) := by
  have hsend := mbSend_of_enabled m h.en
  rw [mbRecv_of_message (m := m) (rest := [])] <;> simp [hsend, h.en, h.underflow, h.count, h.inbox]

/-- What a commit sends, a pop through either window finds, with depth 1 stamped in. -/
theorem popReceive_commitSend {q : QId} {s : State} (h : ReadyEmpty (s.queue q)) (g : Gen) (w w' : Win)
    (val : Word) :
    ((popReceive g w' q (commitSend g w q val s)).window w').cache q
      = messageSlot g (stampDepth s.cfg 1
          (slotMessage g (setSlotWord ((s.window w).stage q) (lastWord g) val))) := by
  rw [popReceive_cache_self, commitSend_eq, mbRecv_mbSend (by rwa [stageWord_queue]), cacheOf_some, stageWord_cfg]

/-- A pop returns word 0 of the cache that it leaves (41_register_facade.md R146). -/
theorem popReceive_result (g : Gen) (w : Win) (q : QId) (s : State) :
    (popReceive g w q s).result = .word (((popReceive g w q s).window w).cache q).w0 := by
  rw [popReceive_cache_self]; rfl

/-- Words 0 to 2 of a V4 send window, staged one after the other. -/
def stageThree (w : Win) (q : QId) (a b c : Word) (s : State) : State :=
  stageWord w q 2 c (stageWord w q 1 b (stageWord w q 0 a s))

@[simp] theorem stageThree_queue (w : Win) (q : QId) (a b c : Word) (s : State) (q' : QId) :
    (stageThree w q a b c s).queue q' = s.queue q' := by
  simp [stageThree]

theorem setSlotWord_stageThree (w : Win) (q : QId) (a b c d : Word) (s : State) :
    setSlotWord (((stageThree w q a b c s).window w).stage q) 3 d = ⟨a, b, c, d⟩ := by
  simp [stageThree, setSlotWord]

/-- Settles O30: the staged words spell the message that is sent, and the cache holds the words of the stamped
one. -/
theorem messageRoundTripsThroughAWindow : Obligations.MessageRoundTripsThroughAWindow := by
  intro w w' q a b c d s hen hlatch hcount hinbox
  have hready : ReadyEmpty (s.queue q) := ⟨hen, hlatch, hcount, hinbox⟩
  constructor
  · let u := stageWord w q 0 a s
    have hcache : ((popReceive .v2 w' q (commitSend .v2 w q b u)).window w').cache q = ⟨a, b, 0, 0⟩ := by
      rw [popReceive_commitSend (by rwa [stageWord_queue]), messageSlot_stampDepth_v2, stage_stageWord]
      rfl
    refine ⟨popReceive .v2 w' q (commitSend .v2 w q b u), by cases q <;> rfl, ?_, ?_, ?_⟩
    · rw [popReceive_result, hcache]
    · rw [hcache]
    · rw [hcache]
  · let u := stageThree w q a b c s
    have hcache : ((popReceive .v4 w' q (commitSend .v4 w q d u)).window w').cache q
        = ⟨a, b, c, (stampDepth s.cfg 1 ⟨b ++ a, c, d⟩).flags⟩ := by
      rw [popReceive_commitSend (by rwa [stageThree_queue]), messageSlot_stampDepth_v4, lastWord,
        setSlotWord_stageThree]
      simp [u, stageThree, slotMessage]
    refine ⟨popReceive .v4 w' q (commitSend .v4 w q d u), by cases q <;> rfl, ?_, ?_, ?_, ?_, ?_⟩
    · rw [popReceive_result, hcache]
    all_goals rw [hcache]

/-- The scenario of R164 in either generation: `stage` writes the words before the last. -/
theorem commitSend_disabled_then_enabled {s : State} {stage : State → State}
    (hstage : ∀ u q, (stage u).queue q = u.queue q) (hen : s.iop.en = false) (g : Gen) (w : Win) (d : Word) :
    let t := commitSend g w .iop d (stage s)
    (∀ q, t.queue q = s.queue q)
      ∧ (commitSend g w .iop d (stage (writeControl .iop 1 t))).iop.count = s.iop.count + 1 := by
  intro t
  have hdropped : ∀ q, t.queue q = s.queue q := fun q =>
    (commitSend_queue_of_disabled g w d (by rwa [hstage]) q).trans (hstage s q)
  refine ⟨hdropped, ?_⟩
  have hcontrol : (stage (writeControl .iop 1 t)).iop = { s.iop with en := true } := by
    rw [← queue_iop, hstage, writeControl, setDirEn, queue_setQueue_self, hdropped]
    rfl
  exact (commitSend_count_of_enabled g w d (by rw [queue_iop, hcontrol])).trans (by rw [queue_iop, hcontrol])

/-- Settles O31: the first commit changes no queue, and once the direction is enabled the second pushes. -/
theorem disabledDirectionScenario : Obligations.DisabledDirectionScenario := by
  intro w w' a b c d s hen hcount
  constructor
  · obtain ⟨hdropped, hpushed⟩ :=
      commitSend_disabled_then_enabled (stage := stageWord w .iop 0 a) (fun _ _ => stageWord_queue ..) hen .v2 w b
    refine ⟨_, _, rfl, ?_, hdropped .ap, rfl, ?_⟩
    · exact (congrArg QueueState.count (hdropped .iop)).trans hcount
    · exact hpushed.trans (by rw [hcount])
  · obtain ⟨hdropped, hpushed⟩ :=
      commitSend_disabled_then_enabled (stage := stageThree w .iop a b c) (fun _ _ => stageThree_queue ..) hen .v4 w d
    refine ⟨_, _, rfl, ?_, hdropped .ap, rfl, ?_⟩
    · exact (congrArg QueueState.count (hdropped .iop)).trans hcount
    · exact hpushed.trans (by rw [hcount])

end Sys2Proof.Machine
end

section
/-! PROOFS. The control words of the A7IOP core and its run state (42_a7iop_core.md R176 to R182). -/

namespace Sys2Proof.Machine

/-! ### The control word and the status word -/

theorem invokeHook_of_engine {s : State} (h : s.cfg.hookTarget = .engine) : invokeHook s = startOrWakeup s := by
  simp [invokeHook, h]

theorem invokeHook_of_nothing {s : State} (h : s.cfg.hookTarget = .nothing) : invokeHook s = s := by
  simp [invokeHook, h]

theorem writeCpuCtrl_of_runBit_clear {val : Word} {s : State} (h : val.getLsbD s.cfg.cpuCtrlRunBit = false) :
    writeCpuCtrl val s = { s with cpuCtrl := val } := by
  simp [writeCpuCtrl, h]

theorem writeCpuCtrl_of_runBit_set {val : Word} {s : State} (h : val.getLsbD s.cfg.cpuCtrlRunBit = true) :
    writeCpuCtrl val s = invokeHook { s with cpuCtrl := val, runState := .running } := by
  simp [writeCpuCtrl, h]

theorem exec_ctlWrCpuCtrl (val : Word) (s : State) : exec (.ctlWrCpuCtrl val) s = .next (writeCpuCtrl val s) := rfl

/-- Settles O39: with the run bit the write is the hook on the running core, and the hook of the engine is its
start or wakeup event. -/
theorem cpuControlWriteRunsTheCore : Obligations.CpuControlWriteRunsTheCore := by
  intro val s
  rw [exec_ctlWrCpuCtrl]
  refine ⟨fun hclear => ?_, fun hset hhook => ?_, fun hset hhook => ?_⟩
  · rw [writeCpuCtrl_of_runBit_clear hclear]
  · exact congrArg _ ((writeCpuCtrl_of_runBit_set hset).trans (invokeHook_of_nothing hhook))
  · exact congrArg _ ((writeCpuCtrl_of_runBit_set hset).trans (invokeHook_of_engine hhook))

theorem cpuStatusWord_eq (c : Config) (r : RunState) :
    cpuStatusWord c r = match r with | .idle => 1#32 <<< c.cpuStatusIdleBit | .running => 0 := by
  cases r <;> rfl

/-- Settles O40: both reads only return a word: the stored control word, and the IDLE bit as the run state gives it. -/
theorem cpuWordsReadBack : Obligations.CpuWordsReadBack :=
  fun s => ⟨rfl, congrArg (fun v => Host.Outcome.next (give (.word v) s)) (cpuStatusWord_eq s.cfg s.runState)⟩

/-! ### The run state -/

theorem writeCpuCtrl_runState (val : Word) (s : State) :
    (writeCpuCtrl val s).runState = if val.getLsbD s.cfg.cpuCtrlRunBit then .running else s.runState :=
  (writeCpuCtrl_engine val s).runState

/-- Only a write of the control word and RESET move the run state (42_a7iop_core.md R182). -/
theorem Effect.runState_eq {i : Instr} {s t : State} (he : Effect i s t) (hreset : i ≠ .reset)
    (hctrl : ∀ val, i ≠ .ctlWrCpuCtrl val) : t.runState = s.runState := by
  cases he with
  | observe r => rfl
  | free => rfl
  | setMask bits hw => exact (setIntMask_frame _ bits s).runState
  | clrMask bits hw => exact (clrIntMask_frame _ bits s).runState
  | enable q b => exact setDirEn_runState q b s
  | stage q k val hw hk => exact (stageWord_frame _ q k val s).runState
  | commit q val hw hg =>
    obtain ⟨m, hm⟩ := commitSend_eq_mbSend _ _ q val s
    rw [hm]
    exact (mbSend_frame q m _).runState.trans (stageWord_frame _ q _ val s).runState
  | pop q hw hq hg => exact (popReceive_frame _ _ q s).runState.trans (mbRecv_frame q s).runState
  | send q m => exact (mbSend_frame q m s).runState
  | receive q hq => exact (mbRecv_frame q s).runState
  | control val hi => exact absurd hi (hctrl val)
  | engine hf he => exact hf.runState
  | callback hb hr hi => exact (runCallback_engine hr).runState
  | apCallback hb hi => rfl
  | registration hi hw hr => obtain ⟨_, _, rfl⟩ := register_ok hr; rfl
  | reset hi => exact absurd hi hreset

/-! ### The transport in either run state -/

/-- The state with another run state: what the transport does commutes with it. -/
def setRunState (r : RunState) (s : State) : State := { s with runState := r }

section
variable (r : RunState) (q : QId) (s : State)

@[simp] theorem setRunState_cfg : (setRunState r s).cfg = s.cfg := rfl

@[simp] theorem setRunState_queue : (setRunState r s).queue q = s.queue q := by cases q <;> rfl

theorem setQueue_setRunState (v : QueueState) :
    (setRunState r s).setQueue q v = setRunState r (s.setQueue q v) := by
  cases q <;> rfl

theorem diag_setRunState (d : Diag) : diag d (setRunState r s) = setRunState r (diag d s) := rfl

theorem mbSend_setRunState (m : Message) : mbSend q m (setRunState r s) = setRunState r (mbSend q m s) := by
  cases hen : (s.queue q).en
  · rw [mbSend_of_disabled m hen, mbSend_of_disabled m (by simpa using hen), diag_setRunState]
  · rw [mbSend_of_enabled m hen, mbSend_of_enabled m (by simpa using hen), setQueue_setRunState, setRunState_queue,
      setRunState_cfg]

theorem mbRecv_setRunState :
    mbRecv q (setRunState r s) = ((mbRecv q s).1, setRunState r (mbRecv q s).2) := by
  rcases mbRecv_cases q s with ⟨hen, h⟩ | ⟨hen, hu, h⟩ | ⟨hen, hu, hc, h⟩ | ⟨hen, hu, hc, hi, h⟩ |
    ⟨m, rest, hen, hu, hc, hi, h⟩ <;> rw [h]
  · exact mbRecv_of_disabled (by simpa using hen)
  · exact mbRecv_of_latched (by simpa using hen) (by simpa using hu)
  · rw [mbRecv_of_empty (by simpa using hen) (by simpa using hu) (by simpa using hc), setQueue_setRunState,
      setRunState_queue, diag_setRunState]
  · simp [mbRecv, hen, hu, hc, hi]
  · rw [mbRecv_of_message (by simpa using hen) (by simpa using hu) (by simpa using hc) (by simpa using hi),
      setQueue_setRunState, setRunState_queue, setRunState_cfg]

end

theorem exec_mbSend_setRunState {q : QId} {m : Message} {s t : State} (r : RunState)
    (h : exec (.mbSend q m) s = .next t) : exec (.mbSend q m) (setRunState r s) = .next (setRunState r t) := by
  cases h
  exact congrArg Host.Outcome.next (mbSend_setRunState r q s m)

theorem exec_mbRecv_setRunState {q : QId} {s t : State} (r : RunState) (h : exec (.mbRecv q) s = .next t) :
    exec (.mbRecv q) (setRunState r s) = .next (setRunState r t) := by
  cases h
  exact congrArg (fun x => Host.Outcome.next (giveMessage x)) (mbRecv_setRunState r q s)

/-- Settles O41: the control word alone starts the core and RESET alone stops it, every other effect keeps the run
state, and a send and a receive commute with a change of it. -/
theorem runStateTransitionTable : Obligations.RunStateTransitionTable := by
  refine ⟨fun val s => ?_, fun s => ⟨_, rfl, rfl⟩,
    fun i s t hreset hctrl hexec => (exec_effect hexec).runState_eq hreset hctrl,
    fun q m r s t => ⟨exec_mbSend_setRunState r, exec_mbRecv_setRunState r⟩⟩
  obtain ⟨hclear, hnothing, hengine⟩ := cpuControlWriteRunsTheCore val s
  refine ⟨writeCpuCtrl val s, exec_ctlWrCpuCtrl val s, ?_, fun hbit => ?_, fun hbit hhook => ?_,
    fun hbit hhook => ?_⟩
  · rw [writeCpuCtrl_runState]
    cases s.runState <;> cases val.getLsbD s.cfg.cpuCtrlRunBit <;> rfl
  · exact writeCpuCtrl_of_runBit_clear hbit
  · exact (hengine hbit hhook).symm
  · exact Host.Outcome.next.inj (hnothing hbit hhook)

end Sys2Proof.Machine
end

section
/-! PROOFS. Start and the inbound management messages, reaction by reaction (43_rtbuddy_engine.md R200 to R216):
each row is one operation of the engine, and each send is the reference description of a send. -/

namespace Sys2Proof.Machine

open Sys2Proof.Claims

/-- Settles O42: in IDLE the hello is sent, whose fields are read back one by one. -/
theorem startSendsHello : Obligations.StartSendsHello := by
  refine fun s => ⟨fun hidle => ⟨helloPayload s.cfg, ?_, fun hwf => ⟨mgmtType_helloPayload hwf,
    helloPayload_major hwf, helloPayload_minor hwf, fun _ => helloPayload_getLsbD_outside⟩⟩, fun hbusy => ?_⟩
  · exact congrArg Host.Outcome.next ((startOrWakeup_of_idle hidle).trans (by rw [sendMgmt_eq_sent]))
  · exact congrArg Host.Outcome.next (startOrWakeup_of_busy hbusy)

/-- Settles O43: BUILD_ROLLCALL is never empty, so there is a first message to send. -/
theorem helloAckSendsFirstRollcall : Obligations.HelloAckSendsFirstRollcall := by
  refine fun p s => ⟨fun hwait => ?_, fun hother => congrArg Host.Outcome.next (inHelloAck_of_other hother)⟩
  obtain ⟨first, rest, hbuild, hack⟩ := inHelloAck_of_waitHello p hwait
  exact ⟨first, rest, hbuild, congrArg Host.Outcome.next (hack.trans (sendMgmt_eq_sent _ _))⟩

/-- The acknowledgment holds the value 32 of `PWR_STATE_ON` (30_encoding.md R85). -/
theorem powerStateAckPayload_eq_placed (c : Config) :
    powerStateAckPayload c = mgmtOf c 7 ||| (32#64 <<< c.pwrStateLsb) := rfl

/-- Settles O44: the two cases of the held list, and the other states. -/
theorem rollcallEchoAdvances : Obligations.RollcallEchoAdvances := by
  refine fun p s => ⟨fun hwait => ⟨fun next rest hheld => ?_, fun hnone => ?_⟩,
    fun hother => congrArg Host.Outcome.next (inRollcall_of_other hother)⟩
  · exact congrArg Host.Outcome.next ((inRollcall_of_cons p hwait hheld).trans (sendMgmt_eq_sent _ _))
  · exact congrArg Host.Outcome.next
      ((inRollcall_of_nil p hwait hnone).trans (by rw [sendMgmt_eq_sent, powerStateAckPayload_eq_placed]))

/-- Settles O47: the answer is the ping with its type field replaced, in every state. -/
theorem pingIsAlwaysAnswered : Obligations.PingIsAlwaysAnswered :=
  fun p s hwf => ⟨pingAckPayload s.cfg p, congrArg Host.Outcome.next (sendMgmt_eq_sent _ s),
    mgmtType_pingAckPayload p hwf.1, fun _ => pingAckPayload_getLsbD_outside p⟩

theorem exec_droppedType {p : Payload} {i : Instr} (hi : i ∈ droppedTypes p) (s : State) :
    exec i s = .next (inDropped p s) := by
  simp only [droppedTypes, List.mem_cons, List.not_mem_nil, or_false] at hi
  rcases hi with rfl | rfl | rfl | rfl | rfl | rfl | rfl | rfl | rfl | rfl | rfl | rfl | rfl <;> rfl

/-- Settles O48: each of the thirteen rows is `inDropped`, a diagnostic. -/
theorem otherManagementTypesAreDropped : Obligations.OtherManagementTypesAreDropped :=
  fun _ s _ hi => exec_droppedType hi s

/-- Settles O49: the four reactions of dispatch, told apart by the type field. -/
theorem dispatchSelectsByTypeAlone : Obligations.DispatchSelectsByTypeAlone := by
  refine fun p s => ⟨?_, mgmt p s, rfl⟩
  have hdispatch : exec (.mgmtDispatch p) s = .next (mgmt p s) := rfl
  change _ = if mgmtType s.cfg p = 2#4 then _ else if mgmtType s.cfg p = 8#4 then _
    else if mgmtType s.cfg p = 3#4 then _ else _
  rw [hdispatch]
  rcases mgmt_cases p s with ⟨htype, h⟩ | ⟨htype, h⟩ | ⟨htype, h⟩ | ⟨h2, h8, h3, h⟩ <;> rw [h]
  · rw [if_pos htype]; rfl
  · rw [htype]; rfl
  · rw [htype]; rfl
  · rw [if_neg h2, if_neg h8, if_neg h3]; rfl

end Sys2Proof.Machine
end

section
/-! PROOFS. Bring-up (43_rtbuddy_engine.md R204, R210; 70_reset_and_hazards.md R277): the echoes send the held
messages one by one and the acknowledgment last. -/

namespace Sys2Proof.Machine

open Sys2Proof.Claims

theorem exec_mgmtInHelloAck (p : Payload) (s : State) : exec (.mgmtInHelloAck p) s = .next (inHelloAck p s) := rfl

theorem exec_mgmtInRollcall (p : Payload) (s : State) : exec (.mgmtInRollcall p) s = .next (inRollcall p s) := rfl

theorem execAll_cons_of_next {i : Instr} {ops : List Instr} {s t : State} (h : exec i s = .next t) :
    execAll (i :: ops) s = execAll ops t := by
  rw [execAll, h]

theorem sendMgmt_ap_inbox {s : State} (p : Payload) (h : s.ap.en = true) :
    (sendMgmt p s).ap.inbox = s.ap.inbox ++ [mgmtMessage p] :=
  congrArg (·.ap.inbox) (mbSend_of_enabled (q := .ap) (mgmtMessage p) h)

/-- One echo for each held message and one more: the held messages are sent, then the acknowledgment. -/
theorem execAll_echoes {s : State} {held echoes : List Payload} (hwait : s.ep0Status = .waitRollcall)
    (hen : s.ap.en = true) (hheld : s.rollcallQ = held) (hlen : echoes.length = held.length + 1) :
    ∃ t, execAll (echoes.map Instr.mgmtInRollcall) s = some t ∧ EngineFrame s t
      ∧ t.ep0Status = .idle ∧ t.rollcallQ = []
      ∧ t.ap.inbox = s.ap.inbox ++ (held ++ [powerStateAckPayload s.cfg]).map mgmtMessage := by
  induction held generalizing s echoes with
  | nil =>
    obtain ⟨p, rfl⟩ := List.length_eq_one_iff.mp hlen
    refine ⟨inRollcall p s, rfl, inRollcall_engine p s, ?_⟩
    rw [inRollcall_of_nil p hwait hheld]
    exact ⟨rfl, (sendMgmt_rollcallQ _ s).trans hheld, sendMgmt_ap_inbox _ hen⟩
  | cons next rest ih =>
    obtain ⟨p, echoes, rfl⟩ := List.exists_cons_of_length_eq_add_one hlen
    have hframe : EngineFrame s (inRollcall p s) := inRollcall_engine p s
    have hecho : inRollcall p s = sendMgmt next { s with rollcallQ := rest } := inRollcall_of_cons p hwait hheld
    have hinbox : (inRollcall p s).ap.inbox = s.ap.inbox ++ [mgmtMessage next] := by
      rw [hecho]; exact sendMgmt_ap_inbox (s := { s with rollcallQ := rest }) next hen
    obtain ⟨t, hrun, hrest, hidle, hempty, hsent⟩ :=
      ih (s := inRollcall p s) (by simpa [hecho] using hwait) (hframe.apEn.trans hen) (by simp [hecho])
        (Nat.succ.inj hlen)
    refine ⟨t, ?_, hframe.trans hrest, hidle, hempty, ?_⟩
    · rw [List.map_cons, execAll_cons_of_next (exec_mgmtInRollcall p s)]; exact hrun
    · rw [hsent, hinbox, hframe.cfg]; simp

/-- Settles O45: the hello-ack sends the first message and holds the rest, which the echoes send. -/
theorem bringUpSendsTheWholeRollcall : Obligations.BringUpSendsTheWholeRollcall := by
  intro p echoes s hwait hen hlen
  obtain ⟨first, rest, hbuild, hack⟩ := inHelloAck_of_waitHello p hwait
  have hframe : EngineFrame s (inHelloAck p s) := inHelloAck_engine p s
  have hinbox : (inHelloAck p s).ap.inbox = s.ap.inbox ++ [mgmtMessage first] := by
    rw [hack]
    exact sendMgmt_ap_inbox (s := { s with ep0Status := .waitRollcall, rollcallQ := rest }) first hen
  obtain ⟨t, hrun, hrest, hidle, hempty, hsent⟩ :=
    execAll_echoes (s := inHelloAck p s) (held := rest) (echoes := echoes) (by simp [hack])
      (hframe.apEn.trans hen) (by simp [hack]) (by simpa [hbuild] using hlen)
  have hall : EngineFrame s t := hframe.trans hrest
  refine ⟨t, ?_, hidle, hempty, ?_, hall.iop, hall.iopw, hall.apw, hall.runState, hall.cfg⟩
  · rw [execAll_cons_of_next (exec_mgmtInHelloAck p s)]; exact hrun
  · rw [hsent, hinbox, hframe.cfg, hbuild, powerStateAckPayload_eq_placed]; simp

end Sys2Proof.Machine
end

section
/-! PROOFS. The rollcall list (43_rtbuddy_engine.md R206; 30_encoding.md R84): a message for each populated block,
with the bits of the block's wire ids, and the terminal message. -/

namespace Sys2Proof.Machine

open Sys2Proof.Claims

/-! ### The mask of a block -/

theorem blockMask_append_singleton (reg : List Endpoint) (x : Endpoint) (b : Nat) :
    blockMask (reg ++ [x]) b
      = if x.wire / 32 = b then blockMask reg b ||| (1#32 <<< (x.wire % 32)) else blockMask reg b := by
  simp only [blockMask, List.foldl_append, List.foldl_cons, List.foldl_nil]

theorem blockMask_getLsbD (reg : List Endpoint) (b : Nat) {k : Nat} (hk : k < 32) :
    (blockMask reg b).getLsbD k = true ↔ ∃ x ∈ reg, x.wire / 32 = b ∧ x.wire % 32 = k := by
  induction reg using List.reverseRecOn with
  | nil => simp [blockMask]
  | append_singleton xs x ih =>
    have hbit : (1#32 <<< (x.wire % 32)).getLsbD k = decide (k = x.wire % 32) := by
      simpa [flagBit, hk] using flagBit_getLsbD true (x.wire % 32) k
    rw [blockMask_append_singleton]
    by_cases hb : x.wire / 32 = b
    · simp [hb, hbit, ih, or_and_right, exists_or, eq_comm (a := k)]
    · simp [hb, ih, or_and_right, exists_or]

/-- The bit of a wire id in the mask of its block. -/
theorem blockMask_getLsbD_wire (reg : List Endpoint) (e : Nat) :
    (blockMask reg (e / 32)).getLsbD (e % 32) = true ↔ ∃ x ∈ reg, x.wire = e := by
  rw [blockMask_getLsbD reg _ (Nat.mod_lt e (by decide))]
  refine exists_congr fun x => and_congr_right fun _ => ?_
  omega

/-! ### The messages -/

/-- The message of a populated block. -/
def blockMessage (c : Config) (b : Nat) : Payload :=
  rollcallPayload c (blockMask c.registry b) (BitVec.ofNat 6 b) false

theorem blockRollcall_eq_some {c : Config} {b : Nat} {p : Payload} :
    blockRollcall c b = some p ↔ blockMask c.registry b ≠ 0 ∧ blockMessage c b = p := by
  unfold blockRollcall blockMessage
  split
  · next h => simp [h]
  · next h => rw [Option.some.injEq, and_iff_right h]

/-- The messages before the terminal one. -/
def blockMessages (c : Config) : List Payload := (List.range 64).filterMap (blockRollcall c)

theorem buildRollcall_eq (c : Config) : buildRollcall c = blockMessages c ++ [rollcallPayload c 0 0 true] := rfl

theorem mem_blockMessages {c : Config} {p : Payload} :
    p ∈ blockMessages c ↔ ∃ b < 64, blockMask c.registry b ≠ 0 ∧ blockMessage c b = p := by
  simp [blockMessages, List.mem_filterMap, blockRollcall_eq_some]

/-- Every message of the list is a rollcall payload. -/
theorem exists_rollcallPayload_of_mem {c : Config} {p : Payload} (hp : p ∈ buildRollcall c) :
    ∃ mask block ended, p = rollcallPayload c mask block ended := by
  rw [buildRollcall_eq, List.mem_append, mem_blockMessages, List.mem_singleton] at hp
  rcases hp with ⟨b, _, _, rfl⟩ | rfl
  · exact ⟨_, _, _, rfl⟩
  · exact ⟨_, _, _, rfl⟩

section
variable {c : Config} (h : c.PayloadWf)
include h

theorem rollcallBlock_blockMessage {b : Nat} (hb : b < 64) : (rollcallBlock c (blockMessage c b)).toNat = b := by
  rw [blockMessage, rollcallBlock_rollcallPayload _ _ _ h, BitVec.toNat_ofNat, Nat.mod_eq_of_lt hb]

/-- A block's message advertises the registered wire ids of the block. -/
theorem advertises_blockMessage {b e : Nat} (hb : b < 64) (he : e < 2048) :
    advertises c (blockMessage c b) e = true ↔ b = e / 32 ∧ ∃ x ∈ c.registry, x.wire = e := by
  have hblock : BitVec.ofNat 6 b = BitVec.ofNat 6 (e / 32) ↔ b = e / 32 := by
    rw [← BitVec.toNat_inj, BitVec.toNat_ofNat, BitVec.toNat_ofNat]
    omega
  rw [advertises, blockMessage, rollcallBlock_rollcallPayload _ _ _ h, rollcallMask_rollcallPayload _ _ _ h,
    Bool.and_eq_true, beq_iff_eq, hblock]
  refine and_congr_right fun hbe => ?_
  rw [hbe, blockMask_getLsbD_wire]

/-- The terminal message advertises nothing. -/
theorem advertises_terminal (e : Nat) : advertises c (rollcallPayload c 0 0 true) e = false := by
  simp [advertises, rollcallMask_rollcallPayload _ _ _ h]

/-- A wire id is advertised by the message of its block, which is sent because the id's bit is set. -/
theorem buildRollcall_advertises {e : Nat} (he : e < 2048) :
    (buildRollcall c).any (fun p => advertises c p e) = true ↔ ∃ x ∈ c.registry, x.wire = e := by
  simp only [buildRollcall_eq, List.any_append, List.any_cons, List.any_nil, advertises_terminal h, Bool.or_false,
    List.any_eq_true]
  constructor
  · rintro ⟨p, hp, hadv⟩
    obtain ⟨b, hb, _, rfl⟩ := mem_blockMessages.mp hp
    exact ((advertises_blockMessage h hb he).mp hadv).2
  · intro hreg
    have hb : e / 32 < 64 := by omega
    have hbit : (blockMask c.registry (e / 32)).getLsbD (e % 32) = true := (blockMask_getLsbD_wire _ e).mpr hreg
    have hmask : blockMask c.registry (e / 32) ≠ 0 := by
      intro hzero
      simp [hzero] at hbit
    exact ⟨blockMessage c (e / 32), mem_blockMessages.mpr ⟨_, hb, hmask, rfl⟩,
      (advertises_blockMessage h hb he).mpr ⟨rfl, hreg⟩⟩

theorem blockMessages_fields {p : Payload} (hp : p ∈ blockMessages c) :
    rollcallEnded c p = false ∧ rollcallMask c p ≠ 0 := by
  obtain ⟨b, _, hmask, rfl⟩ := mem_blockMessages.mp hp
  rw [blockMessage, rollcallEnded_rollcallPayload _ _ _ h, rollcallMask_rollcallPayload _ _ _ h]
  exact ⟨rfl, hmask⟩

/-- The blocks are taken in the order of their indices. -/
theorem blockMessages_ascending :
    ((blockMessages c).map fun p => (rollcallBlock c p).toNat).Pairwise (· < ·) := by
  rw [List.pairwise_map, blockMessages, List.pairwise_filterMap]
  refine List.pairwise_lt_range.imp_of_mem fun {a b} ha hb hlt p hp p' hp' => ?_
  obtain ⟨_, rfl⟩ := blockRollcall_eq_some.mp hp
  obtain ⟨_, rfl⟩ := blockRollcall_eq_some.mp hp'
  rwa [rollcallBlock_blockMessage h (List.mem_range.mp ha), rollcallBlock_blockMessage h (List.mem_range.mp hb)]

end

/-- Settles O46: the list is one message for each populated block, in ascending order, and the terminal one. -/
theorem rollcallCoversExactlyTheRegistry : Obligations.RollcallCoversExactlyTheRegistry := by
  rintro c ⟨-, -, hwf, -⟩
  refine ⟨fun e he => buildRollcall_advertises hwf he, fun p hp => ?_,
    ⟨blockMessages c, rollcallPayload c 0 0 true, buildRollcall_eq c, rollcallEnded_rollcallPayload _ _ _ hwf,
      rollcallMask_rollcallPayload _ _ _ hwf, rollcallBlock_rollcallPayload _ _ _ hwf,
      fun p hp => blockMessages_fields hwf hp, blockMessages_ascending hwf⟩,
    fun s => rfl⟩
  obtain ⟨mask, block, ended, rfl⟩ := exists_rollcallPayload_of_mem hp
  exact ⟨mgmtType_rollcallPayload _ _ _ hwf, fun b => rollcallPayload_getLsbD_outside _ _ _⟩

end Sys2Proof.Machine
end

section
/-! PROOFS. The protocol state of the management endpoint (10_state.md R22; 43_rtbuddy_engine.md R228). -/

namespace Sys2Proof.Machine

theorem Effect.ep0Status_eq {i : Instr} {s t : State} (he : Effect i s t) (hi : mayChangeEp0 i = false) :
    t.ep0Status = s.ep0Status := by
  cases he with
  | observe r => rfl
  | free => rfl
  | setMask bits hw => exact (setIntMask_frame _ bits s).ep0Status
  | clrMask bits hw => exact (clrIntMask_frame _ bits s).ep0Status
  | enable q b => exact setQueue_ep0Status s q _
  | stage q k val hw hk => exact (stageWord_frame _ q k val s).ep0Status
  | commit q val hw hg =>
    obtain ⟨m, hm⟩ := commitSend_eq_mbSend _ _ q val s
    rw [hm]
    exact (mbSend_frame q m _).ep0Status.trans (stageWord_frame _ q _ val s).ep0Status
  | pop q hw hq hg => exact (popReceive_frame _ _ q s).ep0Status.trans (mbRecv_frame q s).ep0Status
  | send q m => exact (mbSend_frame q m s).ep0Status
  | receive q hq => exact (mbRecv_frame q s).ep0Status
  | control val hctrl => subst hctrl; cases hi
  | engine hf hkeeps => exact hkeeps hi
  | callback hb hr hbh => subst hbh; cases hi
  | apCallback hb hbh => rfl
  | registration hreg hw hr => obtain ⟨_, _, rfl⟩ := register_ok hr; rfl
  | reset hreset => subst hreset; cases hi

theorem invokeHook_ep0Status (s : State) :
    (invokeHook s).ep0Status = s.ep0Status
    ∨ (s.ep0Status = .idle ∧ (invokeHook s).ep0Status = .waitHello) := by
  cases hhook : s.cfg.hookTarget with
  | engine => rw [invokeHook_of_engine hhook]; exact startOrWakeup_ep0Status s
  | nothing => rw [invokeHook_of_nothing hhook]; exact .inl rfl

/-- A write of the control word is a start or wakeup event, or leaves the engine alone (42_a7iop_core.md R176). -/
theorem writeCpuCtrl_ep0Status (val : Word) (s : State) :
    (writeCpuCtrl val s).ep0Status = s.ep0Status
    ∨ (s.ep0Status = .idle ∧ (writeCpuCtrl val s).ep0Status = .waitHello) := by
  cases hbit : val.getLsbD s.cfg.cpuCtrlRunBit with
  | false => rw [writeCpuCtrl_of_runBit_clear hbit]; exact .inl rfl
  | true =>
    rw [writeCpuCtrl_of_runBit_set hbit]
    exact invokeHook_ep0Status { s with cpuCtrl := val, runState := .running }

/-- The two transitions that an inbound management message can take (43_rtbuddy_engine.md R204, R210). -/
theorem mgmt_ep0Status (p : Payload) (s : State) :
    (mgmt p s).ep0Status = s.ep0Status
    ∨ (s.ep0Status = .waitHello ∧ mgmtType s.cfg p = 2 ∧ (mgmt p s).ep0Status = .waitRollcall)
    ∨ (s.ep0Status = .waitRollcall ∧ mgmtType s.cfg p = 8 ∧ s.rollcallQ = [] ∧ (mgmt p s).ep0Status = .idle) := by
  rcases mgmt_cases p s with ⟨htype, h⟩ | ⟨htype, h⟩ | ⟨_, h⟩ | ⟨_, _, _, h⟩ <;> rw [h]
  · rcases inHelloAck_ep0Status p s with hkept | ⟨hwait, hnext⟩
    · exact .inl hkept
    · exact .inr (.inl ⟨hwait, htype, hnext⟩)
  · rcases inRollcall_ep0Status p s with hkept | ⟨hwait, hempty, hnext⟩
    · exact .inl hkept
    · exact .inr (.inr ⟨hwait, htype, hempty, hnext⟩)
  · exact .inl (inPing_ep0Status p s)
  · exact .inl (inDropped_ep0Status p s)

/-- Settles O51: the effects keep the state, but for the engine's own reactions, taken one by one. -/
theorem ep0TransitionsOnlyByTheTable : Obligations.Ep0TransitionsOnlyByTheTable := by
  refine ⟨fun i s t hi hexec => (exec_effect hexec).ep0Status_eq hi, fun i s t hi hexec => ?_,
    fun p s t hexec => ?_, fun m s t hm hexec => (route_ok_protocol hm (toOutcome_next hexec)).1⟩
  · rcases hi with hi | ⟨val, rfl⟩
    · obtain rfl := List.mem_singleton.mp hi
      cases hexec
      exact startOrWakeup_ep0Status s
    · cases hexec
      exact writeCpuCtrl_ep0Status val s
  · cases hexec
    exact mgmt_ep0Status p s

end Sys2Proof.Machine
end

section
/-! PROOFS. The interface of the engine (43_rtbuddy_engine.md R190 to R195): registrations and consumer sends. -/

namespace Sys2Proof.Machine

open Sys2Proof.Claims

/-! ### Registrations -/

theorem register_of_live {wire handler : Nat} {user : Bool} {s : State} (h : s.live = true) :
    register wire handler user s = .error .lateRegistration := by
  simp [register, h]

theorem register_of_duplicate {wire handler : Nat} {user : Bool} {s : State} (h : s.live = false)
    (hreg : lookupEndpoint s.cfg.registry wire ≠ none) :
    register wire handler user s = .error .duplicateRegistration := by
  simp [register, h, Option.isSome_iff_ne_none.mpr hreg]

theorem register_of_new {wire handler : Nat} {user : Bool} {s : State} (h : s.live = false)
    (hreg : lookupEndpoint s.cfg.registry wire = none) :
    register wire handler user s
      = .ok { s with cfg := { s.cfg with registry := insertEndpoint ⟨wire, handler, user⟩ s.cfg.registry } } := by
  simp [register, h, hreg]

/-- The wire id of a registration (43_rtbuddy_engine.md R190, R191). -/
def registrationWire (user : Bool) (id : Word) : Nat := if user then id.toNat + 32 else id.toNat

/-- The ids that a registration admits (43_rtbuddy_engine.md R190, R191). -/
def RegistrationInRange (user : Bool) (id : Word) : Prop :=
  if user then id.toNat ≤ 2015 else 1 ≤ id.toNat ∧ id.toNat ≤ 31

/-- The operation of a registration. -/
def registrationOp (user : Bool) (id : Word) (handler : Nat) : Instr :=
  if user then .registerUserEndpoint id handler else .registerControlEndpoint id handler

theorem registrationWire_entryWf {user : Bool} {id : Word} (h : RegistrationInRange user id) (handler : Nat) :
    Config.EntryWf ⟨registrationWire user id, handler, user⟩ := by
  cases user with
  | false => exact ⟨h.1, Nat.lt_succ_of_le h.2⟩
  | true => exact ⟨Nat.le_add_left _ _, Nat.add_le_add_right h 32⟩

theorem exec_registrationOp_of_inRange {user : Bool} {id : Word} (h : RegistrationInRange user id) (handler : Nat)
    (s : State) :
    exec (registrationOp user id handler) s
      = toOutcome (register (registrationWire user id) handler user s) := by
  cases user with
  | false => exact congrArg toOutcome (if_pos ⟨h.1, Nat.lt_succ_of_le h.2⟩)
  | true => exact congrArg toOutcome (if_pos (Nat.add_le_add_right h 32))

theorem exec_registrationOp_of_outOfRange {user : Bool} {id : Word} (h : ¬RegistrationInRange user id)
    (handler : Nat) (s : State) :
    exec (registrationOp user id handler) s = .refused .registrationIdOutOfRange := by
  cases user with
  | false => exact congrArg toOutcome (if_neg fun hid => h ⟨hid.1, Nat.le_of_lt_succ hid.2⟩)
  | true => exact congrArg toOutcome (if_neg fun hid => h (Nat.le_of_add_le_add_right hid))

/-- Settles O53: in range both operations are one registration, which inserts its entry or is refused. -/
theorem registrationAddsOneEndpoint : Obligations.RegistrationAddsOneEndpoint := by
  intro id handler user s
  change (RegistrationInRange user id → _) ∧ (¬RegistrationInRange user id → _)
    ∧ (RegistrationInRange user id → _) ∧ (RegistrationInRange user id → _)
  refine ⟨fun hrange hlive hnew => ⟨_, ?_, lookup_insertEndpoint_self hnew,
      fun _ hne => lookup_insertEndpoint_ne _ hne,
      fun hwf => insertEndpoint_wf hnew hwf (registrationWire_entryWf hrange handler)⟩,
    fun hrange => exec_registrationOp_of_outOfRange hrange handler s, fun hrange hlive => ?_,
    fun hrange hlive hdup => ?_⟩
  · exact (exec_registrationOp_of_inRange hrange handler s).trans (congrArg toOutcome (register_of_new hlive hnew))
  · exact (exec_registrationOp_of_inRange hrange handler s).trans (congrArg toOutcome (register_of_live hlive))
  · exact (exec_registrationOp_of_inRange hrange handler s).trans
      (congrArg toOutcome (register_of_duplicate hlive hdup))

/-! ### Consumer sends -/

theorem sendControl_of_inRange {id : Word} (h : id.toNat < 32) (payload : Payload) (s : State) :
    sendControl id payload s = .ok (sent .ap ⟨payload, id, 0⟩ s) :=
  (if_pos h).trans (congrArg Except.ok (mbSend_eq_sent ..))

theorem sendControl_of_outOfRange {id : Word} (h : 32 ≤ id.toNat) (payload : Payload) (s : State) :
    sendControl id payload s = .error .endpointIdOutOfRange :=
  if_neg (Nat.not_lt.mpr h)

theorem sendUser_of_inRange {id : Word} (h : id.toNat ≤ 2015) (payload : Payload) (s : State) :
    sendUser id payload s = .ok (sent .ap ⟨payload, id + 32, 0⟩ s) :=
  (if_pos (Nat.add_le_add_right h 32)).trans (congrArg Except.ok (mbSend_eq_sent ..))

theorem sendUser_of_outOfRange {id : Word} (h : 2015 < id.toNat) (payload : Payload) (s : State) :
    sendUser id payload s = .error .endpointIdOutOfRange :=
  if_neg fun hid => Nat.not_lt.mpr (Nat.le_of_add_le_add_right hid) h

/-- Settles O52: both operations are the sends of the interface, in range and out of range. -/
theorem consumerSendsOnItsEndpoint : Obligations.ConsumerSendsOnItsEndpoint :=
  fun _ payload s => ⟨fun h => congrArg toOutcome (sendControl_of_inRange h payload s),
    fun h => congrArg toOutcome (sendControl_of_outOfRange h payload s),
    fun h => congrArg toOutcome (sendUser_of_inRange h payload s),
    fun h => congrArg toOutcome (sendUser_of_outOfRange h payload s)⟩

end Sys2Proof.Machine
end

section
/-! PROOFS. Routing (43_rtbuddy_engine.md R222 to R226): a message of the management endpoint is dispatched, one of a
registered endpoint is delivered and its handler's replies are sent in order, any other is logged. -/

namespace Sys2Proof.Machine

open Sys2Proof.Claims

theorem performReply_eq_sent {r : Reply} (hr : ReplyAdmitted r) (s : State) :
    performReply r s = .ok (sent .ap (replyMessage r) s) := by
  cases r with
  | control id payload => exact sendControl_of_inRange hr payload s
  | user id payload => exact sendUser_of_inRange hr payload s

theorem performReply_of_not_admitted {r : Reply} (hr : ¬ReplyAdmitted r) (s : State) :
    performReply r s = .error .endpointIdOutOfRange := by
  cases r with
  | control id payload => exact sendControl_of_outOfRange (Nat.not_lt.mp hr) payload s
  | user id payload => exact sendUser_of_outOfRange (Nat.not_le.mp hr) payload s

theorem performReplies_of_admitted {rs : List Reply} (hrs : ∀ r ∈ rs, ReplyAdmitted r) (s : State) :
    performReplies rs s = .ok (rs.foldl (fun u r => sent .ap (replyMessage r) u) s) := by
  induction rs generalizing s with
  | nil => rfl
  | cons r rs ih =>
    obtain ⟨hr, hrs⟩ := List.forall_mem_cons.mp hrs
    rw [performReplies_cons, performReply_eq_sent hr, List.foldl_cons]
    exact ih hrs _

/-- The replies before the first one that is not admitted are lost with the step, which is refused as a whole. -/
theorem performReplies_of_not_admitted {rs : List Reply} (hrs : ∃ r ∈ rs, ¬ReplyAdmitted r) (s : State) :
    performReplies rs s = .error .endpointIdOutOfRange := by
  induction rs generalizing s with
  | nil => obtain ⟨_, hr, _⟩ := hrs; cases hr
  | cons r rs ih =>
    obtain ⟨x, hx, hbad⟩ := hrs
    rw [performReplies_cons]
    by_cases hr : ReplyAdmitted r
    · have hrest : x ∈ rs := (List.mem_cons.mp hx).resolve_left fun hxr => hbad (hxr ▸ hr)
      rw [performReply_eq_sent hr]
      exact ih ⟨x, hrest, hbad⟩ _
    · rw [performReply_of_not_admitted hr]

theorem route_of_mgmt {m : Message} (h : m.endpoint = 0) (s : State) : route m s = .ok (mgmt m.msg s) :=
  if_pos h

theorem route_of_registered {m : Message} {s : State} {x : Endpoint} (h : m.endpoint ≠ 0)
    (hx : lookupEndpoint s.cfg.registry m.endpoint.toNat = some x) : route m s = deliverTo x m s :=
  (if_neg h).trans (by rw [hx])

theorem route_of_unregistered {m : Message} {s : State} (h : m.endpoint ≠ 0)
    (hx : lookupEndpoint s.cfg.registry m.endpoint.toNat = none) : route m s = .ok (dropUnregistered m s) :=
  (if_neg h).trans (by rw [hx])

/-- Settles O54: the three routes, and over a delivery the replies that the environment chose for it. -/
theorem routeDeliversToTheHandler : Obligations.RouteDeliversToTheHandler := by
  refine fun m s => ⟨fun hm => congrArg toOutcome (route_of_mgmt hm s), fun x hm hx => ⟨fun hrs => ?_, fun hrs => ?_⟩,
    fun hm hx => congrArg toOutcome (route_of_unregistered hm hx), rfl⟩
  · exact congrArg toOutcome ((route_of_registered hm hx).trans (performReplies_of_admitted hrs _))
  · exact congrArg toOutcome ((route_of_registered hm hx).trans (performReplies_of_not_admitted hrs _))

end Sys2Proof.Machine
end

section
/-! PROOFS. The run of the callback of queue IOP (43_rtbuddy_engine.md R220): one iteration of the dispatch loop, how
it ends, and that it drains the queue. -/

namespace Sys2Proof.Machine

theorem loopGuard_eq (s : State) : loopGuard s = (s.iop.en && !s.iop.underflow && s.iop.count != 0) := rfl

theorem dispatchLoop_of_guard_false {s : State} (h : loopGuard s = false) (n : Nat) : dispatchLoop n s = .ok s := by
  cases n with
  | zero => rfl
  | succ n => simp [dispatchLoop, h]

/-- A loop that takes a message and completes is the routing of it, stamped, and the loop over what remains
(43_rtbuddy_engine.md R220). -/
theorem exists_of_dispatchLoop_succ {s t : State} {m : Message} {rest : List Message} {n : Nat}
    (hen : s.iop.en = true) (hu : s.iop.underflow = false) (hc : s.iop.count = n + 1)
    (hi : s.iop.inbox = m :: rest) (h : dispatchLoop (n + 1) s = .ok t) :
    ∃ u, route (stampDepth s.cfg s.iop.count m) { s with iop := { s.iop with inbox := rest, count := n } } = .ok u
      ∧ dispatchLoop n u = .ok t := by
  have hguard : loopGuard s = true := by simp [loopGuard_eq, hen, hu, hc]
  have hrecv : receiveFromAp s = (some (stampDepth s.cfg s.iop.count m),
      { s with iop := { s.iop with inbox := rest, count := n } }) := by
    have hpop := mbRecv_of_message (q := .iop) hen hu (by simp [hc]) hi
    rwa [show (s.queue .iop).count - 1 = n by simp [hc]] at hpop
  simp only [dispatchLoop, hguard, if_true, hrecv] at h
  split at h
  · cases h
  · next u hu => exact ⟨u, hu, h⟩

/-- Nothing pushes onto queue IOP while the loop runs, so that as many iterations as there are messages drain it. -/
theorem dispatchLoop_drains {n : Nat} {s t : State} (hen : s.iop.en = true) (hu : s.iop.underflow = false)
    (hc : QueueConsistent s.iop) (hn : s.iop.count = n) (h : dispatchLoop n s = .ok t) : t.iop.inbox = [] := by
  induction n generalizing s with
  | zero =>
    cases h
    exact List.length_eq_zero_iff.mp (hc.symm.trans hn)
  | succ n ih =>
    obtain ⟨m, rest, hi⟩ := List.exists_cons_of_length_eq_add_one (hc.symm.trans hn)
    obtain ⟨u, hroute, hrest⟩ := exists_of_dispatchLoop_succ hen hu hn hi h
    have hiop : u.iop = { s.iop with inbox := rest, count := n } := (route_ok hroute).iop
    have hlen : n = rest.length := by
      have := hc.symm.trans hn
      rw [hi] at this
      exact (Nat.succ.inj this).symm
    exact ih (by simpa [hiop] using hen) (by simpa [hiop] using hu) (by simp [hiop, hlen]) (by simp [hiop]) hrest

/-- The state in which the loop of a callback run starts (43_rtbuddy_engine.md R220). -/
def clearIopPending (s : State) : State := { s with iop := { s.iop with bhPending := false } }

/-- On a disabled, underflowed or empty queue a run only clears its pending flag. -/
theorem runCallback_of_nothing_to_do {s : State} (hc : QueueConsistent s.iop)
    (h : s.iop.en = false ∨ s.iop.underflow = true ∨ s.iop.inbox = []) :
    runCallback s = .ok (clearIopPending s) := by
  refine dispatchLoop_of_guard_false ?_ _
  rw [loopGuard_eq]
  rcases h with h | h | h
  · simp [h]
  · simp [h]
  · simp [hc, h]

/-- An enabled queue that is not latched is drained, its latch still clear. -/
theorem runCallback_iop {s t : State} (hc : QueueConsistent s.iop) (h : runCallback s = .ok t) :
    t.iop = if s.iop.en = true ∧ s.iop.underflow = false
      then { inbox := [], count := 0, underflow := false, en := true, bhPending := false }
      else { s.iop with bhPending := false } := by
  by_cases hopen : s.iop.en = true ∧ s.iop.underflow = false
  · obtain ⟨hen, hu⟩ := hopen
    have hloop : LoopFrame (clearIopPending s) t := runCallback_ok h
    have hinbox : t.iop.inbox = [] := dispatchLoop_drains (s := clearIopPending s) hen hu hc rfl h
    have hcount : t.iop.count = 0 := (hloop.count hc).trans (by rw [hinbox]; rfl)
    rw [if_pos ⟨hen, hu⟩]
    calc t.iop = ⟨t.iop.inbox, t.iop.count, t.iop.underflow, t.iop.en, t.iop.bhPending⟩ := rfl
      _ = _ := by rw [hinbox, hcount, hloop.underflow.trans hu, hloop.en.trans hen, hloop.bhPending]; rfl
  · have hclosed : s.iop.en = false ∨ s.iop.underflow = true ∨ s.iop.inbox = [] := by
      cases hen : s.iop.en with
      | false => exact .inl rfl
      | true => exact .inr (.inl (by simpa [hen] using hopen))
    rw [runCallback_of_nothing_to_do hc hclosed] at h
    cases h
    rw [if_neg hopen]; rfl

/-- Settles O55: the run completes with admitted replies, drains queue IOP, and does elsewhere what the engine does. -/
theorem callbackDrainsQueueIop : Obligations.CallbackDrainsQueueIop := by
  intro s hpending hreplies hc
  obtain ⟨t, hrun⟩ := runCallback_completes hreplies
  have hf : EngineFrame { s with iop := t.iop } t := runCallback_engine hrun
  refine ⟨t, (exec_bhIop_of_pending hpending).trans (congrArg toOutcome hrun), runCallback_iop hc hrun,
    fun hnothing => ?_, hf.apInbox, hf.apEn, hf.apUnderflow, hf.apPending, hf.trace, hf.cfg, hf.iopw, hf.apw,
    hf.runState, hf.cpuCtrl, hf.inputs, hf.result, hf.freeIdx, hf.live⟩
  exact Except.ok.inj (hrun.symm.trans (runCallback_of_nothing_to_do hc hnothing))

/-- Settles O56: the first iteration routes the head, and a run over what it leaves is the rest of the loop. -/
theorem callbackRoutesInOrder : Obligations.CallbackRoutesInOrder := by
  intro s t m rest hpending hen hu hc hi hexec
  rw [exec_bhIop_of_pending hpending] at hexec
  have hcount : s.iop.count = rest.length + 1 := by rw [hc, hi]; rfl
  have hloop : dispatchLoop (rest.length + 1) (clearIopPending s) = .ok t := by
    rw [← hcount]; exact toOutcome_next hexec
  obtain ⟨u, hroute, hrest⟩ := exists_of_dispatchLoop_succ (s := clearIopPending s) hen hu hcount hi hloop
  have hiop : u.iop = { s.iop with inbox := rest, count := rest.length, bhPending := false } := (route_ok hroute).iop
  refine ⟨u, congrArg toOutcome hroute, ?_⟩
  have hrerun : clearIopPending { u with iop := { u.iop with bhPending := true } } = u := by
    have hflag : { u.iop with bhPending := false } = u.iop := by rw [hiop]
    calc _ = { u with iop := { u.iop with bhPending := false } } := rfl
      _ = u := by rw [hflag]
  have hlen : u.iop.count = rest.length := by rw [hiop]
  calc exec .bhIop { u with iop := { u.iop with bhPending := true } }
      = toOutcome (dispatchLoop u.iop.count (clearIopPending { u with iop := { u.iop with bhPending := true } })) :=
        exec_bhIop_of_pending rfl
    _ = toOutcome (.ok t) := by rw [hrerun, hlen, hrest]

end Sys2Proof.Machine
end

section
/-! PROOFS. A step stops exactly where the spec refuses its operation (60_exceptions.md R240, R250;
93_implementation_defined.md U1, U2, U5 to U8), and a run of accepted requests never stops. -/

namespace Sys2Proof.Machine

/-! ### What is accepted completes, what is not is refused -/

/-- An operation has a successor state exactly when the spec admits it. -/
def Decided (s : State) (i : Instr) : Prop :=
  (accepted s i = true ∧ ∃ t, exec i s = .next t) ∨ (accepted s i = false ∧ ∃ e, exec i s = .refused e)

theorem Decided.completes {s : State} {i : Instr} (h : Decided s i) (ha : accepted s i = true) :
    ∃ t, exec i s = .next t := by
  rcases h with ⟨_, ht⟩ | ⟨hn, _⟩
  · exact ht
  · rw [ha] at hn; cases hn

theorem Decided.refused {s : State} {i : Instr} (h : Decided s i) (ha : accepted s i = false) :
    ∃ e, exec i s = .refused e := by
  rcases h with ⟨hy, _⟩ | ⟨_, he⟩
  · rw [ha] at hy; cases hy
  · exact he

theorem accepted_registrationOp_iff {user : Bool} {id : Word} {handler : Nat} {s : State} :
    accepted s (registrationOp user id handler) = true
      ↔ RegistrationInRange user id ∧ s.live = false
        ∧ lookupEndpoint s.cfg.registry (registrationWire user id) = none := by
  cases user <;> simp [registrationOp, RegistrationInRange, registrationWire, and_assoc]

/-- A registration is refused out of range, after the first step, and for a wire id that is taken (U8). -/
theorem registrationOp_decided (user : Bool) (id : Word) (handler : Nat) (s : State) :
    Decided s (registrationOp user id handler) := by
  have refused {e : Refusal} (hn : ¬(RegistrationInRange user id ∧ s.live = false
      ∧ lookupEndpoint s.cfg.registry (registrationWire user id) = none))
      (he : exec (registrationOp user id handler) s = .refused e) : Decided s (registrationOp user id handler) :=
    .inr ⟨Bool.eq_false_iff.mpr fun ha => hn (accepted_registrationOp_iff.mp ha), e, he⟩
  by_cases hrange : RegistrationInRange user id
  · have hexec := exec_registrationOp_of_inRange hrange handler s
    cases hlive : s.live with
    | true => exact refused (by simp [hlive]) (hexec.trans (congrArg toOutcome (register_of_live hlive)))
    | false =>
      by_cases hnew : lookupEndpoint s.cfg.registry (registrationWire user id) = none
      · exact .inl ⟨accepted_registrationOp_iff.mpr ⟨hrange, hlive, hnew⟩, _,
          hexec.trans (congrArg toOutcome (register_of_new hlive hnew))⟩
      · exact refused (by simp [hnew]) (hexec.trans (congrArg toOutcome (register_of_duplicate hlive hnew)))
  · exact refused (fun h => hrange h.1) (exec_registrationOp_of_outOfRange hrange handler s)

theorem sendControlMessage_decided (id : Word) (payload : Payload) (s : State) :
    Decided s (.sendControlMessage id payload) := by
  obtain ⟨hin, hout, -⟩ := consumerSendsOnItsEndpoint id payload s
  by_cases h : id.toNat < 32
  · exact .inl ⟨decide_eq_true (Nat.le_of_lt_succ h), _, hin h⟩
  · exact .inr ⟨decide_eq_false fun hle => h (Nat.lt_succ_of_le hle), _, hout (Nat.not_lt.mp h)⟩

theorem sendUserMessage_decided (id : Word) (payload : Payload) (s : State) :
    Decided s (.sendUserMessage id payload) := by
  obtain ⟨-, -, hin, hout⟩ := consumerSendsOnItsEndpoint id payload s
  by_cases h : id.toNat ≤ 2015
  · exact .inl ⟨decide_eq_true h, _, hin h⟩
  · exact .inr ⟨decide_eq_false h, _, hout (Nat.not_le.mp h)⟩

/-- The run of the callback of queue IOP completes because its handlers' replies are admitted. -/
theorem bhIop_decided {s : State} (hr : RepliesAdmitted s) : Decided s .bhIop := by
  cases h : s.iop.bhPending with
  | false => exact .inr ⟨h, _, exec_bhIop_of_not_pending h⟩
  | true =>
    obtain ⟨t, ht⟩ := runCallback_completes hr
    exact .inl ⟨h, t, (exec_bhIop_of_pending h).trans (congrArg toOutcome ht)⟩

theorem bhAp_decided (s : State) : Decided s .bhAp := by
  cases h : s.ap.bhPending with
  | false => exact .inr ⟨h, _, exec_bhAp_of_not_pending h⟩
  | true => exact .inl ⟨h, _, exec_bhAp_of_pending h⟩

/-- The rows whose meaning depends on an operand or on the state; the rows that the spec refuses on every path (U1,
U2, U5, U6); and all others, which complete. -/
theorem exec_decided {s : State} (hr : RepliesAdmitted s) (i : Instr) : Decided s i := by
  cases i with
  | registerControlEndpoint id handler => exact registrationOp_decided false id handler s
  | registerUserEndpoint id handler => exact registrationOp_decided true id handler s
  | sendControlMessage id payload => exact sendControlMessage_decided id payload s
  | sendUserMessage id payload => exact sendUserMessage_decided id payload s
  | bhIop => exact bhIop_decided hr
  | bhAp => exact bhAp_decided s
  | routeRegistered m =>
    obtain ⟨t, ht⟩ := route_completes hr m
    exact .inl ⟨rfl, t, congrArg toOutcome ht⟩
  | v2WrIopRecv0 | v2WrIopRecv1 | v2WrApRecv0 | v2WrApRecv1 | v4WrIopRecv0 | v4WrIopRecv1 | v4WrIopRecv2
  | v4WrIopRecv3 | v4WrApRecv0 | v4WrApRecv1 | v4WrApRecv2 | v4WrApRecv3 => exact .inr ⟨rfl, _, rfl⟩
  | v2Undefined | v4Undefined | regBadSize | ctlWrCpuStatus | ctlUndefined => exact .inr ⟨rfl, _, rfl⟩
  | _ => exact .inl ⟨rfl, _, rfl⟩

/-! ### No operation writes the environment's script -/

/-- The requests that are left stay as they are, and replies are only used up. -/
structure ScriptFrame (s t : State) : Prop where
  inputs : t.inputs = s.inputs
  replies : t.replies <:+ s.replies

theorem ScriptFrame.of_eq {s t : State} (hin : t.inputs = s.inputs) (hreplies : t.replies = s.replies) :
    ScriptFrame s t :=
  ⟨hin, hreplies ▸ List.suffix_refl _⟩

theorem ScriptFrame.trans {s t u : State} (h : ScriptFrame s t) (k : ScriptFrame t u) : ScriptFrame s u :=
  ⟨k.inputs.trans h.inputs, k.replies.trans h.replies⟩

theorem setWindow_script (w : Win) (v : WindowState) (s : State) : ScriptFrame s (s.setWindow w v) :=
  .of_eq (setWindow_inputs s w v) (setWindow_replies s w v)

theorem QueueFrame.script {q : QId} {s t : State} (h : QueueFrame q s t) : ScriptFrame s t :=
  .of_eq h.inputs h.replies

theorem EngineFrame.script {s t : State} (h : EngineFrame s t) : ScriptFrame s t := ⟨h.inputs, h.replies⟩

theorem Effect.script {i : Instr} {s t : State} (he : Effect i s t) : ScriptFrame s t := by
  cases he with
  | observe r => exact .of_eq rfl rfl
  | free => exact .of_eq rfl rfl
  | setMask bits hw => exact setWindow_script _ _ s
  | clrMask bits hw => exact setWindow_script _ _ s
  | enable q b => exact .of_eq (setQueue_inputs s q _) (setQueue_replies s q _)
  | stage q k val hw hk => exact setWindow_script _ _ s
  | commit q val hw hg => exact (setWindow_script _ _ s).trans (mbSend_frame q _ _).script
  | pop q hw hq hg => exact (mbRecv_frame q s).script.trans ((setWindow_script _ _ _).trans (.of_eq rfl rfl))
  | send q m => exact (mbSend_frame q m s).script
  | receive q hq => exact (mbRecv_frame q s).script.trans (.of_eq rfl rfl)
  | control val hi => have hf := writeCpuCtrl_engine val s; exact ⟨hf.inputs, hf.replies⟩
  | engine hf he => exact hf.script
  | callback hb hr hi => have hf := runCallback_engine hr; exact ⟨hf.inputs, hf.replies⟩
  | apCallback hb hi => exact .of_eq rfl rfl
  | registration hi hw hr => obtain ⟨_, _, rfl⟩ := register_ok hr; exact .of_eq rfl rfl
  | reset hi => exact .of_eq rfl rfl

/-! ### Steps -/

/-- An accepted operation as a whole step: it takes its request, uses up replies, and keeps the configuration unless
it is a registration. -/
theorem runStep_of_accepted {s : State} {i : Instr} (hr : RepliesAdmitted s) (ha : accepted s i = true)
    (rest : List Request) :
    ∃ t, runStep i rest s = .next t ∧ RepliesAdmitted t ∧ t.inputs = rest
      ∧ (isRegistration i = false → t.cfg = s.cfg) := by
  obtain ⟨u, hexec⟩ := (exec_decided (s := begin rest s) hr i).completes ha
  have hscript : ScriptFrame (begin rest s) u := (exec_effect hexec).script
  exact ⟨retire i u, by simp only [runStep, hexec], fun rs hrs => hr rs (hscript.replies.subset hrs), hscript.inputs,
    fun hi => configurationIsFixed i (begin rest s) u hi hexec⟩

theorem runStep_of_not_accepted {s : State} {i : Instr} (hr : RepliesAdmitted s) (ha : accepted s i = false)
    (rest : List Request) : ∃ e, runStep i rest s = .refused e := by
  obtain ⟨e, hexec⟩ := (exec_decided (s := begin rest s) hr i).refused ha
  exact ⟨e, by simp only [runStep, hexec]⟩

theorem step_of_pending {s : State} {q : QId} (hf : fetch s = .callback q) (hq : (s.queue q).bhPending = true)
    (hr : RepliesAdmitted s) : ∃ t, step s = .next t ∧ RepliesAdmitted t ∧ t.inputs = [] := by
  have ha : accepted s (callbackRun q) = true := by
    cases q
    · exact hq
    · exact hq
  obtain ⟨t, hrun, hreplies, hin, _⟩ := runStep_of_accepted hr ha []
  exact ⟨t, by simp only [step, hf, hrun], hreplies, hin⟩

/-- Without a request a pending callback runs, or nothing happens; neither places a request. -/
theorem step_of_no_request {s : State} (hr : RepliesAdmitted s) (hin : s.inputs = []) :
    ∃ t, step s = .next t ∧ RepliesAdmitted t ∧ t.inputs = [] := by
  cases hiop : s.iop.bhPending with
  | true => exact step_of_pending (fetch_of_iop_pending hin hiop) hiop hr
  | false =>
    cases hap : s.ap.bhPending with
    | true => exact step_of_pending (fetch_of_ap_pending hin hiop hap) hap hr
    | false => exact ⟨s, idleChannelDoesNotChange s hin hiop hap, hr, hin⟩

/-! ### Runs -/

/-- Every request that is left decodes to an operation that is accepted in every state. -/
def AlwaysAccepted (s : State) : Prop :=
  ∀ r ∈ s.inputs, ∃ i, decode s.cfg r = .ok i ∧ ∀ u : State, accepted u i = true

/-- A registration is accepted in no state after the first step (43_rtbuddy_engine.md R190). -/
theorem isRegistration_of_always_accepted {i : Instr} (h : ∀ u : State, accepted u i = true) :
    isRegistration i = false := by
  cases i with
  | registerControlEndpoint id handler => simpa using h { State.reset with live := true }
  | registerUserEndpoint id handler => simpa using h { State.reset with live := true }
  | _ => rfl

theorem step_of_alwaysAccepted {s : State} (hr : RepliesAdmitted s) (h : AlwaysAccepted s) :
    ∃ t, step s = .next t ∧ RepliesAdmitted t ∧ AlwaysAccepted t := by
  cases hin : s.inputs with
  | nil =>
    obtain ⟨t, hstep, hreplies, hempty⟩ := step_of_no_request hr hin
    exact ⟨t, hstep, hreplies, by rw [AlwaysAccepted, hempty]; nofun⟩
  | cons r rest =>
    rw [AlwaysAccepted, hin, List.forall_mem_cons] at h
    obtain ⟨⟨i, hdec, ha⟩, hrest⟩ := h
    obtain ⟨t, hrun, hreplies, hin', hcfg⟩ := runStep_of_accepted hr (ha s) rest
    refine ⟨t, (step_of_fetch_request (fetch_of_decode hin hdec)).trans hrun, hreplies, ?_⟩
    rwa [AlwaysAccepted, hin', hcfg (isRegistration_of_always_accepted ha)]

theorem safeFor_of_alwaysAccepted {s : State} (hr : RepliesAdmitted s) (h : AlwaysAccepted s) (n : Nat) :
    SafeFor n s := by
  induction n generalizing s with
  | zero => exact trivial
  | succ n ih =>
    obtain ⟨t, hstep, hreplies, ht⟩ := step_of_alwaysAccepted hr h
    exact ⟨t, hstep, ih hreplies ht⟩

/-- Settles O18: a step is one operation, which is decided by its acceptance, and a run of steps keeps what it needs. -/
theorem acceptedRunNeverStops : Obligations.AcceptedRunNeverStops := by
  refine fun s hr => ⟨fun hin => ?_, fun r rest i hin hdec => ?_, fun h => safeFor_of_alwaysAccepted hr h⟩
  · obtain ⟨t, hstep, hreplies, _⟩ := step_of_no_request hr hin
    exact ⟨t, hstep, hreplies⟩
  · rw [step_of_fetch_request (fetch_of_decode hin hdec)]
    refine ⟨fun ha => ?_, fun ha => runStep_of_not_accepted hr ha rest⟩
    obtain ⟨t, hrun, hreplies, hrest, _⟩ := runStep_of_accepted hr ha rest
    exact ⟨t, hrun, hreplies, hrest⟩

end Sys2Proof.Machine
end

section
/-! PROOFS. What follows from the four lines of a window being functions of count, mask and latch (10_state.md R19;
60_exceptions.md R247): the lines after reset, the complementary lines of a queue, and the line that masking cannot
silence. -/

namespace Sys2Proof.Machine

theorem permit_of_window_reset {s : State} {w : Win} (hw : s.window w = .reset) (l : Line) :
    permit s w l = true := by
  simp [permit, hw, WindowState.reset]

/-- An empty queue without a latch behind a window without masks, as reset leaves both (60_exceptions.md R247 (a)). -/
theorem irq_of_reset {s : State} {w : Win} {q : QId} (hq : s.queue q = .reset) (hw : s.window w = .reset) :
    irq s w (.empty q) = true ∧ irq s w (.nonempty q) = false := by
  simp [irq_eq, lineCondition, lineForced, permit_of_window_reset hw, hq, QueueState.reset]

/-- Without a latch a permitted line shows its condition, and the conditions of a queue exclude each other
(60_exceptions.md R247 (b)). -/
theorem irq_empty_eq_not_nonempty {s : State} {w : Win} {q : QId} (hempty : permit s w (.empty q) = true)
    (hnonempty : permit s w (.nonempty q) = true) (hlatch : (s.queue q).underflow = false) :
    irq s w (.empty q) = !(irq s w (.nonempty q)) := by
  have hcondition : lineCondition s (.empty q) = !lineCondition s (.nonempty q) := by
    simp [lineCondition, Nat.pos_iff_ne_zero]
  simp [irq_eq, lineForced, hempty, hnonempty, hlatch, hcondition]

/-- The latch forces the nonempty line, whatever its mask bit is (60_exceptions.md R246). -/
theorem irq_nonempty_of_underflow {s : State} {q : QId} (hlatch : (s.queue q).underflow = true) (w : Win) :
    irq s w (.nonempty q) = true := by
  simp [irq_eq, lineForced, hlatch]

/-- Settles O38: `irq_eq` gives the four lines, RESET leaves reset queues and windows, and a mask operation keeps
the latch. -/
theorem interruptLineConsequences : Obligations.InterruptLineConsequences := by
  refine ⟨fun s w => ?_, fun s t w q hexec => ?_, fun w q => ?_, fun s w q => irq_empty_eq_not_nonempty,
    fun s t w w' q bits hlatch hexec => ?_⟩
  · exact ⟨irq_eq s w _, irq_eq s w _, irq_eq s w _, irq_eq s w _⟩
  · cases hexec
    exact irq_of_reset (by cases q <;> rfl) (by cases w <;> rfl)
  · exact irq_of_reset (by cases q <;> rfl) (by cases w <;> rfl)
  · cases hexec
    exact irq_nonempty_of_underflow (by rwa [(setIntMask_frame w bits s).queue q]) w'

end Sys2Proof.Machine
end

section
/-! PROOFS. RESET (70_reset_and_hazards.md R270 to R272): what it assigns and keeps, that it brings any state with an
admitted registry to the invariant, and what the state after reset shows. -/

namespace Sys2Proof.Machine

theorem exec_reset_eq_next {s t : State} : exec .reset s = .next t ↔ t = resetAll s :=
  ⟨fun h => by cases h; rfl, fun h => h ▸ rfl⟩

/-! ### What RESET assigns and keeps -/

/-- Settles O58: the reset queue, the reset window and the zero slot are the values that R270 lists. -/
theorem resetClearsTheChannel : Obligations.ResetClearsTheChannel :=
  fun _ => exec_reset_eq_next.mpr rfl

theorem resetAll_resetAll (s : State) : resetAll (resetAll s) = resetAll s := rfl

/-- Only the configuration and the model's own fields (log entries 1, 6, 7, 9 to 11) show from which state a channel
was reset. -/
theorem resetAll_eq_resetAll_with (s s' : State) :
    resetAll s = { resetAll s' with
      cfg := s.cfg, inputs := s.inputs, replies := s.replies, trace := s.trace, result := s.result,
      freeIdx := s.freeIdx, live := s.live } := rfl

/-- Settles O59: RESET leads to `resetAll`, which is idempotent and keeps no state element of the spec. -/
theorem resetIsIdempotent : Obligations.ResetIsIdempotent := by
  refine ⟨fun s t h => ?_, fun s s' t t' h h' => ?_⟩
  · rw [exec_reset_eq_next] at h ⊢
    rw [h, resetAll_resetAll]
  · rw [exec_reset_eq_next] at h h'
    subst h h'
    exact resetAll_eq_resetAll_with s s'

/-! ### The state after reset -/

/-- The state after reset is what RESET makes of it (70_reset_and_hazards.md R271). -/
theorem resetAll_reset : resetAll State.reset = State.reset := rfl

theorem reset_queue (q : QId) : State.reset.queue q = .reset := by cases q <;> rfl

theorem reset_window (w : Win) : State.reset.window w = .reset := by cases w <;> rfl

/-- RESET establishes the invariant, from whatever queues and engine state: only the registry, which it keeps, must
be admitted. -/
theorem resetAll_inv_of_registryWf {s : State} (hreg : Config.RegistryWf s.cfg.registry) : Inv (resetAll s) := by
  have hqueue : QueueConsistent .reset := rfl
  exact ⟨hqueue, hqueue, fun _ => rfl, nofun, nofun, hreg⟩

/-- Settles O10: the registry of the default configuration is empty (log entry 5). -/
theorem resetMeetsChannelInvariant : Obligations.ResetMeetsChannelInvariant := by
  have hreg : Config.RegistryWf State.reset.cfg.registry := ⟨.nil, nofun⟩
  rw [Obligations.ResetMeetsChannelInvariant, ← resetAll_reset]
  exact resetAll_inv_of_registryWf hreg

/-- Enabled and empty: bits 0 and 17 at the default positions (00_scope.md R4). -/
theorem statusWord_default_reset : statusWord Config.default .reset = 0x00020001 := by decide

/-- Settles O60: the lines by `irq_of_reset`, the status words by the default bit positions. -/
theorem resetStateOutputs : Obligations.ResetStateOutputs := by
  refine ⟨fun w q => (irq_of_reset (reset_queue q) (reset_window w)).symm, fun q => ?_, ?_, rfl, rfl, rfl, rfl, rfl⟩
  · have hword : statusWord State.reset.cfg (State.reset.queue q) = 0x00020001 := by
      rw [reset_queue]
      exact statusWord_default_reset
    exact congrArg (fun v => Host.Outcome.next (give (.word v) State.reset)) hword
  · exact congrArg (fun v => Host.Outcome.next (give (.word v) State.reset)) (cpuStatusWord_eq Config.default .idle)

end Sys2Proof.Machine
end
